-- ==== Sys2Proof/Word.lean ====
section
/-! DEFINITION. The words of the decoder (00_scope.md R9): the byte, which is all the block ever reads
(20_memory.md R27), and the 16-bit value a two-byte operand forms (R26). -/

namespace Sys2Proof

/-- A byte: "an unsigned 8-bit value 0 to 255" (00_scope.md R9). -/
abbrev Byte := BitVec 8

/-- The 16-bit value of a two-byte operand (20_memory.md R26). -/
abbrev Word16 := BitVec 16

end Sys2Proof
end

