-- ==== Sys2Proof/Syntax.lean ====
section
/-! DEFINITION. The syntax the decoder deals in: the addressing modes (10_state.md R14), the mnemonics (R13, R18) and ONE
constructor of `Instr` for each row of spec/opcode_table.json, in the order of the section files 41 to 48. A one-byte
operand is `b`; a two-byte operand is its low byte `l` and its high byte `h`, in buffer order (30_encoding.md R38). -/

namespace Sys2Proof

/-- The closed set of 13 addressing modes, in the order of 10_state.md R14. -/
inductive AddressingMode where
  | implicit
  | accumulator
  | immediate
  | zeroPage
  | zeroPageX
  | zeroPageY
  | relative
  | absolute
  | absoluteX
  | absoluteY
  | indirect
  | indirectX
  | indirectY
deriving DecidableEq, Repr

/-- The 56 mnemonics of the table (30_encoding.md R42), and the sentinel of the undefined-opcode record
(40_decode_and_format.md R50). -/
inductive Mnemonic where
  | lda | ldx | ldy | sta | stx | sty | adc | sbc
  | and | ora | eor | cmp | cpx | cpy | bit | asl
  | lsr | rol | ror | inc | dec | tax | tay | tsx
  | txa | txs | tya | inx | iny | dex | dey | pha
  | php | pla | plp | jmp | jsr | rts | rti | brk
  | bpl | bmi | bvc | bvs | bcc | bcs | bne | beq
  | clc | sec | cli | sei | clv | cld | sed | nop
  | sentinel
deriving DecidableEq, Repr

/-- What a defined entry of `TABLE` holds (10_state.md R13). An undefined entry's fields are read by no rule, so an entry
of the table is an `Option TableEntry`, and `defined` is that it is `some`. -/
structure TableEntry where
  mnemonic : Mnemonic
  mode     : AddressingMode
deriving DecidableEq, Repr

/-- The instructions: 151 defined opcode values with their operand bytes, and the 105 undefined values. -/
inductive Instr where
  -- Load and store instructions (41_load_store.md)
  | ldaIndirectX (b : Byte)
  | ldaZeroPage (b : Byte)
  | ldaImmediate (b : Byte)
  | ldaAbsolute (l h : Byte)
  | ldaIndirectY (b : Byte)
  | ldaZeroPageX (b : Byte)
  | ldaAbsoluteY (l h : Byte)
  | ldaAbsoluteX (l h : Byte)
  | ldxImmediate (b : Byte)
  | ldxZeroPage (b : Byte)
  | ldxAbsolute (l h : Byte)
  | ldxZeroPageY (b : Byte)
  | ldxAbsoluteY (l h : Byte)
  | ldyImmediate (b : Byte)
  | ldyZeroPage (b : Byte)
  | ldyAbsolute (l h : Byte)
  | ldyZeroPageX (b : Byte)
  | ldyAbsoluteX (l h : Byte)
  | staIndirectX (b : Byte)
  | staZeroPage (b : Byte)
  | staAbsolute (l h : Byte)
  | staIndirectY (b : Byte)
  | staZeroPageX (b : Byte)
  | staAbsoluteY (l h : Byte)
  | staAbsoluteX (l h : Byte)
  | stxZeroPage (b : Byte)
  | stxAbsolute (l h : Byte)
  | stxZeroPageY (b : Byte)
  | styZeroPage (b : Byte)
  | styAbsolute (l h : Byte)
  | styZeroPageX (b : Byte)
  -- Arithmetic, logical, compare and bit-test instructions (42_alu.md)
  | adcIndirectX (b : Byte)
  | adcZeroPage (b : Byte)
  | adcImmediate (b : Byte)
  | adcAbsolute (l h : Byte)
  | adcIndirectY (b : Byte)
  | adcZeroPageX (b : Byte)
  | adcAbsoluteY (l h : Byte)
  | adcAbsoluteX (l h : Byte)
  | sbcIndirectX (b : Byte)
  | sbcZeroPage (b : Byte)
  | sbcImmediate (b : Byte)
  | sbcAbsolute (l h : Byte)
  | sbcIndirectY (b : Byte)
  | sbcZeroPageX (b : Byte)
  | sbcAbsoluteY (l h : Byte)
  | sbcAbsoluteX (l h : Byte)
  | andIndirectX (b : Byte)
  | andZeroPage (b : Byte)
  | andImmediate (b : Byte)
  | andAbsolute (l h : Byte)
  | andIndirectY (b : Byte)
  | andZeroPageX (b : Byte)
  | andAbsoluteY (l h : Byte)
  | andAbsoluteX (l h : Byte)
  | oraIndirectX (b : Byte)
  | oraZeroPage (b : Byte)
  | oraImmediate (b : Byte)
  | oraAbsolute (l h : Byte)
  | oraIndirectY (b : Byte)
  | oraZeroPageX (b : Byte)
  | oraAbsoluteY (l h : Byte)
  | oraAbsoluteX (l h : Byte)
  | eorIndirectX (b : Byte)
  | eorZeroPage (b : Byte)
  | eorImmediate (b : Byte)
  | eorAbsolute (l h : Byte)
  | eorIndirectY (b : Byte)
  | eorZeroPageX (b : Byte)
  | eorAbsoluteY (l h : Byte)
  | eorAbsoluteX (l h : Byte)
  | cmpIndirectX (b : Byte)
  | cmpZeroPage (b : Byte)
  | cmpImmediate (b : Byte)
  | cmpAbsolute (l h : Byte)
  | cmpIndirectY (b : Byte)
  | cmpZeroPageX (b : Byte)
  | cmpAbsoluteY (l h : Byte)
  | cmpAbsoluteX (l h : Byte)
  | cpxImmediate (b : Byte)
  | cpxZeroPage (b : Byte)
  | cpxAbsolute (l h : Byte)
  | cpyImmediate (b : Byte)
  | cpyZeroPage (b : Byte)
  | cpyAbsolute (l h : Byte)
  | bitZeroPage (b : Byte)
  | bitAbsolute (l h : Byte)
  -- Shift, rotate, increment and decrement of memory (43_read_modify_write.md)
  | aslZeroPage (b : Byte)
  | aslAccumulator
  | aslAbsolute (l h : Byte)
  | aslZeroPageX (b : Byte)
  | aslAbsoluteX (l h : Byte)
  | lsrZeroPage (b : Byte)
  | lsrAccumulator
  | lsrAbsolute (l h : Byte)
  | lsrZeroPageX (b : Byte)
  | lsrAbsoluteX (l h : Byte)
  | rolZeroPage (b : Byte)
  | rolAccumulator
  | rolAbsolute (l h : Byte)
  | rolZeroPageX (b : Byte)
  | rolAbsoluteX (l h : Byte)
  | rorZeroPage (b : Byte)
  | rorAccumulator
  | rorAbsolute (l h : Byte)
  | rorZeroPageX (b : Byte)
  | rorAbsoluteX (l h : Byte)
  | incZeroPage (b : Byte)
  | incAbsolute (l h : Byte)
  | incZeroPageX (b : Byte)
  | incAbsoluteX (l h : Byte)
  | decZeroPage (b : Byte)
  | decAbsolute (l h : Byte)
  | decZeroPageX (b : Byte)
  | decAbsoluteX (l h : Byte)
  -- Register transfer, increment and decrement instructions (44_register.md)
  | tax
  | tay
  | tsx
  | txa
  | txs
  | tya
  | inx
  | iny
  | dex
  | dey
  -- Stack push and pull instructions (45_stack.md)
  | pha
  | php
  | pla
  | plp
  -- Control transfer: jumps, subroutine, return, break and branches (46_control.md)
  | jmpAbsolute (l h : Byte)
  | jmpIndirect (l h : Byte)
  | jsr (l h : Byte)
  | rts
  | rti
  | brk
  | bpl (b : Byte)
  | bmi (b : Byte)
  | bvc (b : Byte)
  | bvs (b : Byte)
  | bcc (b : Byte)
  | bcs (b : Byte)
  | bne (b : Byte)
  | beq (b : Byte)
  -- Flag set and clear instructions, and NOP (47_flag_and_nop.md)
  | clc
  | sec
  | cli
  | sei
  | clv
  | cld
  | sed
  | nop
  -- Undefined opcode values (48_undefined.md)
  | undefined02 | undefined03 | undefined04 | undefined07 | undefined0B | undefined0C
  | undefined0F | undefined12 | undefined13 | undefined14 | undefined17 | undefined1A
  | undefined1B | undefined1C | undefined1F | undefined22 | undefined23 | undefined27
  | undefined2B | undefined2F | undefined32 | undefined33 | undefined34 | undefined37
  | undefined3A | undefined3B | undefined3C | undefined3F | undefined42 | undefined43
  | undefined44 | undefined47 | undefined4B | undefined4F | undefined52 | undefined53
  | undefined54 | undefined57 | undefined5A | undefined5B | undefined5C | undefined5F
  | undefined62 | undefined63 | undefined64 | undefined67 | undefined6B | undefined6F
  | undefined72 | undefined73 | undefined74 | undefined77 | undefined7A | undefined7B
  | undefined7C | undefined7F | undefined80 | undefined82 | undefined83 | undefined87
  | undefined89 | undefined8B | undefined8F | undefined92 | undefined93 | undefined97
  | undefined9B | undefined9C | undefined9E | undefined9F | undefinedA3 | undefinedA7
  | undefinedAB | undefinedAF | undefinedB2 | undefinedB3 | undefinedB7 | undefinedBB
  | undefinedBF | undefinedC2 | undefinedC3 | undefinedC7 | undefinedCB | undefinedCF
  | undefinedD2 | undefinedD3 | undefinedD4 | undefinedD7 | undefinedDA | undefinedDB
  | undefinedDC | undefinedDF | undefinedE2 | undefinedE3 | undefinedE7 | undefinedEB
  | undefinedEF | undefinedF2 | undefinedF3 | undefinedF4 | undefinedF7 | undefinedFA
  | undefinedFB | undefinedFC | undefinedFF
deriving DecidableEq, Repr

end Sys2Proof
end

