-- ==== Sys2Proof/Machine/OpcodeTable.lean ====
section
/-! DEFINITION. The read-only opcode table and what depends on it alone: `TABLE` (10_state.md R13, 30_encoding.md R42),
`opCount` (R37) and the mnemonics' spelling (40_decode_and_format.md R56). The block's one piece of state, and a constant
(10_state.md R23; log 2). Its rows outside R43 are the spec's general knowledge (93_implementation_defined.md G1; log 9). -/

namespace Sys2Proof

/-- The three uppercase letters of a mnemonic; the sentinel is `???` (40_decode_and_format.md R50, R56). -/
def Mnemonic.text : Mnemonic → String
  | .lda => "LDA"
  | .ldx => "LDX"
  | .ldy => "LDY"
  | .sta => "STA"
  | .stx => "STX"
  | .sty => "STY"
  | .adc => "ADC"
  | .sbc => "SBC"
  | .and => "AND"
  | .ora => "ORA"
  | .eor => "EOR"
  | .cmp => "CMP"
  | .cpx => "CPX"
  | .cpy => "CPY"
  | .bit => "BIT"
  | .asl => "ASL"
  | .lsr => "LSR"
  | .rol => "ROL"
  | .ror => "ROR"
  | .inc => "INC"
  | .dec => "DEC"
  | .tax => "TAX"
  | .tay => "TAY"
  | .tsx => "TSX"
  | .txa => "TXA"
  | .txs => "TXS"
  | .tya => "TYA"
  | .inx => "INX"
  | .iny => "INY"
  | .dex => "DEX"
  | .dey => "DEY"
  | .pha => "PHA"
  | .php => "PHP"
  | .pla => "PLA"
  | .plp => "PLP"
  | .jmp => "JMP"
  | .jsr => "JSR"
  | .rts => "RTS"
  | .rti => "RTI"
  | .brk => "BRK"
  | .bpl => "BPL"
  | .bmi => "BMI"
  | .bvc => "BVC"
  | .bvs => "BVS"
  | .bcc => "BCC"
  | .bcs => "BCS"
  | .bne => "BNE"
  | .beq => "BEQ"
  | .clc => "CLC"
  | .sec => "SEC"
  | .cli => "CLI"
  | .sei => "SEI"
  | .clv => "CLV"
  | .cld => "CLD"
  | .sed => "SED"
  | .nop => "NOP"
  | .sentinel => "???"

namespace Machine

/-- `opCount(mode)`, the operand bytes a mode dictates (30_encoding.md R37; Indirect is 2, 90_conflicts.md C1). -/
def opCount : AddressingMode → Nat
  | .implicit => 0
  | .accumulator => 0
  | .immediate => 1
  | .zeroPage => 1
  | .zeroPageX => 1
  | .zeroPageY => 1
  | .relative => 1
  | .absolute => 2
  | .absoluteX => 2
  | .absoluteY => 2
  | .indirect => 2
  | .indirectX => 1
  | .indirectY => 1

/-- A defined entry. -/
def row (m : Mnemonic) (mode : AddressingMode) : Option TableEntry := some { mnemonic := m, mode := mode }

/-- An undefined entry (`---` in 30_encoding.md R42). -/
def gap : Option TableEntry := none

/-- The opcode map of 30_encoding.md R42: row = high hex digit of the opcode, column = low hex digit. -/
def opcodeTable : Vector (Vector (Option TableEntry) 16) 16 := #v[
  -- 0x
  #v[row .brk .implicit, row .ora .indirectX, gap, gap,
     gap, row .ora .zeroPage, row .asl .zeroPage, gap,
     row .php .implicit, row .ora .immediate, row .asl .accumulator, gap,
     gap, row .ora .absolute, row .asl .absolute, gap],
  -- 1x
  #v[row .bpl .relative, row .ora .indirectY, gap, gap,
     gap, row .ora .zeroPageX, row .asl .zeroPageX, gap,
     row .clc .implicit, row .ora .absoluteY, gap, gap,
     gap, row .ora .absoluteX, row .asl .absoluteX, gap],
  -- 2x
  #v[row .jsr .absolute, row .and .indirectX, gap, gap,
     row .bit .zeroPage, row .and .zeroPage, row .rol .zeroPage, gap,
     row .plp .implicit, row .and .immediate, row .rol .accumulator, gap,
     row .bit .absolute, row .and .absolute, row .rol .absolute, gap],
  -- 3x
  #v[row .bmi .relative, row .and .indirectY, gap, gap,
     gap, row .and .zeroPageX, row .rol .zeroPageX, gap,
     row .sec .implicit, row .and .absoluteY, gap, gap,
     gap, row .and .absoluteX, row .rol .absoluteX, gap],
  -- 4x
  #v[row .rti .implicit, row .eor .indirectX, gap, gap,
     gap, row .eor .zeroPage, row .lsr .zeroPage, gap,
     row .pha .implicit, row .eor .immediate, row .lsr .accumulator, gap,
     row .jmp .absolute, row .eor .absolute, row .lsr .absolute, gap],
  -- 5x
  #v[row .bvc .relative, row .eor .indirectY, gap, gap,
     gap, row .eor .zeroPageX, row .lsr .zeroPageX, gap,
     row .cli .implicit, row .eor .absoluteY, gap, gap,
     gap, row .eor .absoluteX, row .lsr .absoluteX, gap],
  -- 6x
  #v[row .rts .implicit, row .adc .indirectX, gap, gap,
     gap, row .adc .zeroPage, row .ror .zeroPage, gap,
     row .pla .implicit, row .adc .immediate, row .ror .accumulator, gap,
     row .jmp .indirect, row .adc .absolute, row .ror .absolute, gap],
  -- 7x
  #v[row .bvs .relative, row .adc .indirectY, gap, gap,
     gap, row .adc .zeroPageX, row .ror .zeroPageX, gap,
     row .sei .implicit, row .adc .absoluteY, gap, gap,
     gap, row .adc .absoluteX, row .ror .absoluteX, gap],
  -- 8x
  #v[gap, row .sta .indirectX, gap, gap,
     row .sty .zeroPage, row .sta .zeroPage, row .stx .zeroPage, gap,
     row .dey .implicit, gap, row .txa .implicit, gap,
     row .sty .absolute, row .sta .absolute, row .stx .absolute, gap],
  -- 9x
  #v[row .bcc .relative, row .sta .indirectY, gap, gap,
     row .sty .zeroPageX, row .sta .zeroPageX, row .stx .zeroPageY, gap,
     row .tya .implicit, row .sta .absoluteY, row .txs .implicit, gap,
     gap, row .sta .absoluteX, gap, gap],
  -- Ax
  #v[row .ldy .immediate, row .lda .indirectX, row .ldx .immediate, gap,
     row .ldy .zeroPage, row .lda .zeroPage, row .ldx .zeroPage, gap,
     row .tay .implicit, row .lda .immediate, row .tax .implicit, gap,
     row .ldy .absolute, row .lda .absolute, row .ldx .absolute, gap],
  -- Bx
  #v[row .bcs .relative, row .lda .indirectY, gap, gap,
     row .ldy .zeroPageX, row .lda .zeroPageX, row .ldx .zeroPageY, gap,
     row .clv .implicit, row .lda .absoluteY, row .tsx .implicit, gap,
     row .ldy .absoluteX, row .lda .absoluteX, row .ldx .absoluteY, gap],
  -- Cx
  #v[row .cpy .immediate, row .cmp .indirectX, gap, gap,
     row .cpy .zeroPage, row .cmp .zeroPage, row .dec .zeroPage, gap,
     row .iny .implicit, row .cmp .immediate, row .dex .implicit, gap,
     row .cpy .absolute, row .cmp .absolute, row .dec .absolute, gap],
  -- Dx
  #v[row .bne .relative, row .cmp .indirectY, gap, gap,
     gap, row .cmp .zeroPageX, row .dec .zeroPageX, gap,
     row .cld .implicit, row .cmp .absoluteY, gap, gap,
     gap, row .cmp .absoluteX, row .dec .absoluteX, gap],
  -- Ex
  #v[row .cpx .immediate, row .sbc .indirectX, gap, gap,
     row .cpx .zeroPage, row .sbc .zeroPage, row .inc .zeroPage, gap,
     row .inx .implicit, row .sbc .immediate, row .nop .implicit, gap,
     row .cpx .absolute, row .sbc .absolute, row .inc .absolute, gap],
  -- Fx
  #v[row .beq .relative, row .sbc .indirectY, gap, gap,
     gap, row .sbc .zeroPageX, row .inc .zeroPageX, gap,
     row .sed .implicit, row .sbc .absoluteY, gap, gap,
     gap, row .sbc .absoluteX, row .inc .absoluteX, gap]]

/-- `TABLE[op]` (00_scope.md R9, 10_state.md R13). -/
def TABLE (op : Byte) : Option TableEntry :=
  (opcodeTable[op.toNat / 16]'(by have := op.isLt; omega))[op.toNat % 16]'(by omega)

/-- The operand bytes an opcode value calls for: `opCount(mode)` of its table entry, none for an undefined value
(30_encoding.md R39, 40_decode_and_format.md R50). -/
def neededBy (op : Byte) : Nat :=
  match TABLE op with
  | some e => opCount e.mode
  | none => 0

/-- The length of an instruction, which depends on its opcode byte alone (30_encoding.md R39). -/
def instructionLength (op : Byte) : Nat := 1 + neededBy op

/-- The 256 opcode values in order. -/
def allOpcodes : List Byte := (List.range 256).map (BitVec.ofNat 8)

/-- The rows of one mnemonic: its opcode values with their modes, in order of the value. -/
def rowsOf (m : Mnemonic) : List (Byte × AddressingMode) :=
  allOpcodes.filterMap fun op =>
    match TABLE op with
    | some e => if e.mnemonic = m then some (op, e.mode) else none
    | none => none

/-- The undefined opcode values in order (30_encoding.md R44). -/
def undefinedOpcodes : List Byte := allOpcodes.filter fun op => (TABLE op).isNone

end Machine

end Sys2Proof
end

