-- ==== Sys2Proof/Machine/Operands.lean ====
section
/-! DEFINITION. The operand formatter and its addressing-mode multiplexer (40_decode_and_format.md R53, R56), and how the
operand bytes of each mode form the value printed (30_encoding.md R40). -/

namespace Sys2Proof.Machine

/-- `0123456789ABCDEF` (40_decode_and_format.md R56, 92_eei_decisions.md D7). -/
def hexDigits : List Char :=
  ['0', '1', '2', '3', '4', '5', '6', '7', '8', '9', 'A', 'B', 'C', 'D', 'E', 'F']

/-- The uppercase hexadecimal digit of a nibble. -/
def hexDigit (n : BitVec 4) : Char := hexDigits.getD n.toNat '0'

/-- `hex2(b)`: exactly two characters, the high nibble first, zero-padded (00_scope.md R9, R56). -/
def hex2 (b : Byte) : String :=
  String.ofList [hexDigit (b.extractLsb' 4 4), hexDigit (b.extractLsb' 0 4)]

/-- `hex4(w) = hex2(w[15:8]) ++ hex2(w[7:0])` (00_scope.md R9). -/
def hex4 (w : Word16) : String := hex2 (w.extractLsb' 8 8) ++ hex2 (w.extractLsb' 0 8)

/-- `(h << 8) | l`: the first operand byte is the low byte (20_memory.md R26). -/
def word16 (l h : Byte) : Word16 := (h.zeroExtend 16 <<< 8) ||| l.zeroExtend 16

/-- The value a mode's operand bytes assemble to, with its width (30_encoding.md R40): no value is scaled, shifted or
extended before printing. -/
inductive OperandValue where
  | absent
  | byte (b : Byte)
  | word (w : Word16)
deriving DecidableEq, Repr

/-- 30_encoding.md R40. A record of status `Ok` holds exactly `opCount(mode)` bytes (10_state.md R20); fewer bytes
assemble to nothing, which no rule renders (log 16). -/
def operandValue (mode : AddressingMode) (ops : List Byte) : OperandValue :=
  match opCount mode, ops with
  | 1, b :: _ => .byte b
  | 2, l :: h :: _ => .word (word16 l h)
  | _, _ => .absent

/-- The digits of an assembled value: 2 for a byte, 4 for a 16-bit value, high byte first (R56, R26). -/
def OperandValue.digits : OperandValue → String
  | .absent => ""
  | .byte b => hex2 b
  | .word w => hex4 w

/-- `opText(mode, ops)`: the thirteen text shapes of 40_decode_and_format.md R53, one function keyed by mode. -/
def opText (mode : AddressingMode) (ops : List Byte) : String :=
  let digits := (operandValue mode ops).digits
  match mode with
  | .implicit => ""
  | .accumulator => "A"
  | .immediate => "#$" ++ digits
  | .zeroPage => "$" ++ digits
  | .zeroPageX => "$" ++ digits ++ ", X"
  | .zeroPageY => "$" ++ digits ++ ", Y"
  | .relative => "$" ++ digits
  | .absolute => "$" ++ digits
  | .absoluteX => "$" ++ digits ++ ", X"
  | .absoluteY => "$" ++ digits ++ ", Y"
  | .indirect => "($" ++ digits ++ ")"
  | .indirectX => "($" ++ digits ++ ", X)"
  | .indirectY => "($" ++ digits ++ "), Y"

/-- `sext_8(b)`, the distance a Relative operand stands for (30_encoding.md R41). DESCRIPTIVE: no result, text or step
reads it; the block prints the raw byte. -/
def relativeDistance (b : Byte) : Int := b.toInt

/-- The place in the buffer a branch at `off` would go to: `off + 2 + sext_8(b)` (30_encoding.md R41). DESCRIPTIVE, as
`relativeDistance`. -/
def relativeTarget (off : Nat) (b : Byte) : Int := (off : Int) + 2 + relativeDistance b

end Sys2Proof.Machine
end

