-- ==== Sys2Proof/Machine/Result.lean ====
section
/-! DEFINITION. The result record one call returns (10_state.md R18, R19) and the parts of it the host reads. -/

namespace Sys2Proof.Machine

/-- The four result statuses (10_state.md R19, 60_exceptions.md R123). -/
inductive Status where
  | ok
  | undefined
  | truncated
  | invalid
deriving DecidableEq, Repr

/-- The record of a call that found an opcode (10_state.md R18). `operands` are the operand bytes consumed, in buffer
order; `needed` is what the mode dictates; `length` is the total bytes consumed. -/
structure Decoded where
  opcode   : Byte
  mnemonic : Mnemonic
  mode     : AddressingMode
  needed   : Nat
  operands : List Byte
  length   : Nat
deriving DecidableEq, Repr

/-- `Result = Ok(Decoded) | Undefined(Decoded) | Truncated(Decoded) | Invalid` (10_state.md R18). -/
inductive Result where
  | ok        (d : Decoded)
  | undefined (d : Decoded)
  | truncated (d : Decoded)
  | invalid
deriving DecidableEq, Repr

/-- The record a result carries; `Invalid` has no fields (10_state.md R20). -/
def Result.record? : Result → Option Decoded
  | .ok d => some d
  | .undefined d => some d
  | .truncated d => some d
  | .invalid => none

/-- The result status is the variant tag (10_state.md R18, 60_exceptions.md R126). -/
def Result.status : Result → Status
  | .ok _ => .ok
  | .undefined _ => .undefined
  | .truncated _ => .truncated
  | .invalid => .invalid

/-- `length(r)`, the bytes consumed: `d.length`, and 0 for `Invalid` (40_decode_and_format.md R47, R58). -/
def Result.length : Result → Nat
  | .ok d => d.length
  | .undefined d => d.length
  | .truncated d => d.length
  | .invalid => 0

/-- The bytes of the buffer a record stands for: its opcode byte and the operand bytes it consumed
(10_state.md R18: "total bytes consumed = 1 + len(operands)"). -/
def Result.consumed : Result → List Byte
  | .ok d => d.opcode :: d.operands
  | .undefined d => d.opcode :: d.operands
  | .truncated d => d.opcode :: d.operands
  | .invalid => []

end Sys2Proof.Machine
end

