-- ==== Sys2Proof/Machine/Render.lean ====
section
/-! DEFINITION. The rendered text of a result and the line it yields (40_decode_and_format.md R54, R55, R57). -/

namespace Sys2Proof.Machine

/-- `render(Ok(d))`: the mnemonic, then one space and the operand text when that is not empty (R54). -/
def Decoded.okText (d : Decoded) : String :=
  d.mnemonic.text ++ (if opText d.mode d.operands = "" then "" else " " ++ opText d.mode d.operands)

/-- `render(r)`: R54 for `Ok`, R55 for the others. -/
def Result.text : Result → String
  | .ok d => d.okText
  | .undefined _ => Mnemonic.sentinel.text
  | .truncated d => d.mnemonic.text ++ " <truncated>"
  | .invalid => ""

/-- The emitted line, `render(r) ++ "\n"`; `Invalid` yields none (R57). -/
def Result.line? : Result → Option String
  | .invalid => none
  | r => some (r.text ++ "\n")

end Sys2Proof.Machine
end

