-- ==== Sys2Proof/Machine/Memory.lean ====
section
/-! DEFINITION. The input buffer (20_memory.md R25): `len` bytes at indices `0 .. len-1`, read one byte at a time (R27).
It is held as its length and the list of the bytes that differ from `Memory.unlisted`, in one canonical form (log 5). The
block only reads; `ofBytes` and `put` are the host loading the buffer (70_reset_and_hazards.md R140). -/

namespace Sys2Proof.Machine

/-- A buffer: its length, and its bytes as (index, byte) pairs. -/
structure Memory where
  len   : Nat
  cells : List Host.Cell
deriving DecidableEq, Repr

/-- What an index inside the buffer that no pair lists reads as (log 5: a matter of how the bytes are written down). -/
def Memory.unlisted : Byte := 0x00#8

/-- The byte the pairs give at an index. -/
def Memory.lookup (a : Nat) : List Host.Cell → Byte
  | [] => Memory.unlisted
  | (x, v) :: t => if x = a then v else Memory.lookup a t

/-- `MemRead(a, 1)`, which means `buf[a]` (00_scope.md R9). The rules perform it only for `a < len` (20_memory.md R29). -/
def Memory.byteAt (m : Memory) (a : Nat) : Byte := Memory.lookup a m.cells

/-- One byte read from outside: `none` where the buffer has no such index. -/
def Memory.read (m : Memory) (a : Nat) : Option Byte :=
  if a < m.len then some (m.byteAt a) else none

/-- `buf[i .. j)`, the bytes at indices `i` up to but excluding `j` (00_scope.md R9). -/
def Memory.slice (m : Memory) (i j : Nat) : List Byte :=
  (List.range' i (j - i)).map m.byteAt

/-- The whole buffer as a byte sequence. -/
def Memory.bytes (m : Memory) : List Byte := m.slice 0 m.len

/-- The indices rise strictly from `lo` on, stay below `hi`, and no pair holds `unlisted`. -/
def Memory.canonicalFrom (lo hi : Nat) : List Host.Cell → Bool
  | [] => true
  | (x, v) :: t => decide (lo ≤ x) && decide (x < hi) && decide (v ≠ Memory.unlisted) && Memory.canonicalFrom (x + 1) hi t

/-- The canonical form, so that equal buffers are equal data. -/
def Memory.wf (m : Memory) : Bool := Memory.canonicalFrom 0 m.len m.cells

/-- Insert a pair before the first pair with a larger index. -/
def Memory.insertCell (a : Nat) (b : Byte) : List Host.Cell → List Host.Cell
  | [] => [(a, b)]
  | c :: t => if a < c.1 then (a, b) :: c :: t else c :: Memory.insertCell a b t

/-- Store one pair: the old pair at that index goes, and the new one is listed unless it holds `unlisted`. -/
def Memory.setCell (a : Nat) (b : Byte) (cells : List Host.Cell) : List Host.Cell :=
  let rest := cells.filter (fun c => c.1 ≠ a)
  if b = Memory.unlisted then rest else Memory.insertCell a b rest

/-- The host puts one byte into the buffer, which grows to hold it. -/
def Memory.put (m : Memory) (a : Nat) (b : Byte) : Memory :=
  { len := max m.len (a + 1), cells := Memory.setCell a b m.cells }

/-- The host puts bytes one after another from index `a` on. -/
def Memory.putAll (m : Memory) (a : Nat) : List Byte → Memory
  | [] => m
  | b :: bs => (m.put a b).putAll (a + 1) bs

/-- The pairs of a byte sequence that starts at index `n`. -/
def Memory.cellsFrom (n : Nat) : List Byte → List Host.Cell
  | [] => []
  | b :: bs => if b = Memory.unlisted then Memory.cellsFrom (n + 1) bs else (n, b) :: Memory.cellsFrom (n + 1) bs

/-- The buffer that holds a byte sequence: the host loads it "from storage" (70_reset_and_hazards.md R140). -/
def Memory.ofBytes (bs : List Byte) : Memory := { len := bs.length, cells := Memory.cellsFrom 0 bs }

/-- The empty buffer, which is also what a null buffer is (40_decode_and_format.md R49). -/
def Memory.empty : Memory := { len := 0, cells := [] }

end Sys2Proof.Machine
end

