-- ==== Sys2Proof/Machine/State.lean ====
section
/-! DEFINITION. The machine's state. The block itself keeps nothing between calls (10_state.md R12); what changes is what
the host's loop of 40_decode_and_format.md R58 owns: the buffer, the cursor and the emitted lines (log 1), and the record
the latest call returned, which is the model's own field (log 3). The opcode table is a constant (R23; log 2). -/

namespace Sys2Proof.Machine

/-- The host's side of the contract (R58) and the block's latest output. -/
structure State where
  /-- The input buffer (20_memory.md R25). -/
  buf    : Memory
  /-- The host's cursor `off`, an index into `buf` (10_state.md R16). -/
  off    : Nat
  /-- The lines emitted so far, oldest first, each ending in one line feed (40_decode_and_format.md R57, R58). -/
  lines  : List String
  /-- The record the latest call returned; `none` before the first call (log 3). -/
  result : Option Result
deriving DecidableEq, Repr

/-- Why the machine stops with a fault. -/
inductive Fault where
  /-- InvalidInput: a call on an empty buffer or with `off >= len(buf)` (40_decode_and_format.md R49). Raised by the step
  and by every meaning before anything else (60_exceptions.md R127), because "a model of a host that reaches it records a
  fault of the host" (R124). Safe: the block's own answer is the fixed result `Invalid`, and no claim about a next state
  can be proved of such a call. -/
  | invalidInput
deriving DecidableEq, Repr

/-- Why an instruction is refused. -/
inductive Refusal where
  /-- Raised by an arm of `exec` that has no meaning yet. No arm is one: every instruction of the table has its meaning.
  Safe: a refused instruction has no next state. -/
  | notModelled (mnemonic : String)
deriving DecidableEq, Repr

/-- Before the host has loaded a buffer and made a call (log 4): the block has nothing to reset (10_state.md R24,
70_reset_and_hazards.md R137), `off` and `lines` are as the loop of R58 begins, and the buffer is empty. -/
def State.reset : State := { buf := Memory.empty, off := 0, lines := [], result := none }

end Sys2Proof.Machine
end

