-- ==== Sys2Proof/Machine/Ops.lean ====
section
/-! DEFINITION. The shared operations of the meanings: the result of a call on a defined and on an undefined opcode
(40_decode_and_format.md R48), and what the host does with a result (R58, R129), which is also the whole of "entering" an
error outcome (60_exceptions.md R128) and of "returning" from one (R129). -/

namespace Sys2Proof.Machine

/-- The result of a call whose opcode is defined, in a buffer of `len` bytes at `off`: R48 from its step 3 on, and the
pseudocode every instruction's rule gives (R65 to R120). `ops` are the operand bytes the instruction's layout has; the
record keeps the `k` of them that lie inside the buffer (log 17). `Invalid` is tested first (60_exceptions.md R127). -/
def definedResult (op : Byte) (m : Mnemonic) (mode : AddressingMode) (ops : List Byte) (len off : Nat) : Result :=
  if off < len then
    let n := opCount mode
    let k := min n (len - off - 1)
    let d : Decoded :=
      { opcode := op, mnemonic := m, mode := mode, needed := n, operands := ops.take k, length := 1 + k }
    if k < n then .truncated d else .ok d
  else .invalid

/-- The record of an undefined opcode value (40_decode_and_format.md R50, 48_undefined.md R121). -/
def undefinedRecord (op : Byte) : Decoded :=
  { opcode := op, mnemonic := .sentinel, mode := .implicit, needed := 0, operands := [], length := 1 }

/-- The result of a call whose opcode is undefined: `Undefined`, whatever follows, and never `Truncated` (R50, R121). -/
def undefinedResult (op : Byte) (len off : Nat) : Result :=
  if off < len then .undefined (undefinedRecord op) else .invalid

/-- The body of the host's loop after a call (40_decode_and_format.md R58): the line is emitted and the cursor moves by the
returned length, which is where the host resumes after any outcome (60_exceptions.md R129). The buffer is not written. -/
def State.deliver (s : State) (r : Result) : State :=
  { s with off := s.off + r.length, lines := s.lines ++ [r.text ++ "\n"], result := some r }

/-- How a call ends. `Ok`, `Undefined` and `Truncated` are handed to the host, which goes on; entering an error outcome
saves and changes nothing of its own (60_exceptions.md R124, R128). `Invalid` is the fault of the caller (R124; log 6). -/
def conclude (r : Result) (s : State) : Host.Outcome State Fault Refusal :=
  match r with
  | .ok d => .next (s.deliver (.ok d))
  | .undefined d => .next (s.deliver (.undefined d))
  | .truncated d => .next (s.deliver (.truncated d))
  | .invalid => .fault .invalidInput

/-- The call on a defined opcode with mnemonic `m` and mode `mode` at the cursor, and what the host does with it. -/
def definedCall (op : Byte) (m : Mnemonic) (mode : AddressingMode) (ops : List Byte) (s : State) :
    Host.Outcome State Fault Refusal :=
  conclude (definedResult op m mode ops s.buf.len s.off) s

/-- The call on an undefined opcode at the cursor, and what the host does with it. -/
def undefinedCall (op : Byte) (s : State) : Host.Outcome State Fault Refusal :=
  conclude (undefinedResult op s.buf.len s.off) s

/-- The next state of an outcome, where there is one. -/
def nextState? (o : Host.Outcome State Fault Refusal) : Option State :=
  match o with
  | .next s => some s
  | .fault _ => none
  | .refused _ => none

end Sys2Proof.Machine
end

