-- ==== Sys2Proof/Machine/Alu.lean ====
section
/-! DEFINITION. Arithmetic, logical, compare and bit-test instructions (42_alu.md, R71 to R79): one meaning per opcode row, each what the rule's pseudocode returns for that opcode and
mode, handed to the host. Flags written: none. No execution effect (00_scope.md R4; log 15). -/

namespace Sys2Proof.Machine

/-- R71: ADC, 0x61, IndirectX. -/
def execAdcIndirectX (b : Byte) (s : State) : Host.Outcome State Fault Refusal :=
  definedCall 0x61#8 .adc .indirectX [b] s

/-- R71: ADC, 0x65, ZeroPage. -/
def execAdcZeroPage (b : Byte) (s : State) : Host.Outcome State Fault Refusal :=
  definedCall 0x65#8 .adc .zeroPage [b] s

/-- R71: ADC, 0x69, Immediate. -/
def execAdcImmediate (b : Byte) (s : State) : Host.Outcome State Fault Refusal :=
  definedCall 0x69#8 .adc .immediate [b] s

/-- R71: ADC, 0x6D, Absolute. -/
def execAdcAbsolute (l h : Byte) (s : State) : Host.Outcome State Fault Refusal :=
  definedCall 0x6D#8 .adc .absolute [l, h] s

/-- R71: ADC, 0x71, IndirectY. -/
def execAdcIndirectY (b : Byte) (s : State) : Host.Outcome State Fault Refusal :=
  definedCall 0x71#8 .adc .indirectY [b] s

/-- R71: ADC, 0x75, ZeroPageX. -/
def execAdcZeroPageX (b : Byte) (s : State) : Host.Outcome State Fault Refusal :=
  definedCall 0x75#8 .adc .zeroPageX [b] s

/-- R71: ADC, 0x79, AbsoluteY. -/
def execAdcAbsoluteY (l h : Byte) (s : State) : Host.Outcome State Fault Refusal :=
  definedCall 0x79#8 .adc .absoluteY [l, h] s

/-- R71: ADC, 0x7D, AbsoluteX. -/
def execAdcAbsoluteX (l h : Byte) (s : State) : Host.Outcome State Fault Refusal :=
  definedCall 0x7D#8 .adc .absoluteX [l, h] s

/-- R72: SBC, 0xE1, IndirectX. -/
def execSbcIndirectX (b : Byte) (s : State) : Host.Outcome State Fault Refusal :=
  definedCall 0xE1#8 .sbc .indirectX [b] s

/-- R72: SBC, 0xE5, ZeroPage. -/
def execSbcZeroPage (b : Byte) (s : State) : Host.Outcome State Fault Refusal :=
  definedCall 0xE5#8 .sbc .zeroPage [b] s

/-- R72: SBC, 0xE9, Immediate. -/
def execSbcImmediate (b : Byte) (s : State) : Host.Outcome State Fault Refusal :=
  definedCall 0xE9#8 .sbc .immediate [b] s

/-- R72: SBC, 0xED, Absolute. -/
def execSbcAbsolute (l h : Byte) (s : State) : Host.Outcome State Fault Refusal :=
  definedCall 0xED#8 .sbc .absolute [l, h] s

/-- R72: SBC, 0xF1, IndirectY. -/
def execSbcIndirectY (b : Byte) (s : State) : Host.Outcome State Fault Refusal :=
  definedCall 0xF1#8 .sbc .indirectY [b] s

/-- R72: SBC, 0xF5, ZeroPageX. -/
def execSbcZeroPageX (b : Byte) (s : State) : Host.Outcome State Fault Refusal :=
  definedCall 0xF5#8 .sbc .zeroPageX [b] s

/-- R72: SBC, 0xF9, AbsoluteY. -/
def execSbcAbsoluteY (l h : Byte) (s : State) : Host.Outcome State Fault Refusal :=
  definedCall 0xF9#8 .sbc .absoluteY [l, h] s

/-- R72: SBC, 0xFD, AbsoluteX. -/
def execSbcAbsoluteX (l h : Byte) (s : State) : Host.Outcome State Fault Refusal :=
  definedCall 0xFD#8 .sbc .absoluteX [l, h] s

/-- R73: AND, 0x21, IndirectX. -/
def execAndIndirectX (b : Byte) (s : State) : Host.Outcome State Fault Refusal :=
  definedCall 0x21#8 .and .indirectX [b] s

/-- R73: AND, 0x25, ZeroPage. -/
def execAndZeroPage (b : Byte) (s : State) : Host.Outcome State Fault Refusal :=
  definedCall 0x25#8 .and .zeroPage [b] s

/-- R73: AND, 0x29, Immediate. -/
def execAndImmediate (b : Byte) (s : State) : Host.Outcome State Fault Refusal :=
  definedCall 0x29#8 .and .immediate [b] s

/-- R73: AND, 0x2D, Absolute. -/
def execAndAbsolute (l h : Byte) (s : State) : Host.Outcome State Fault Refusal :=
  definedCall 0x2D#8 .and .absolute [l, h] s

/-- R73: AND, 0x31, IndirectY. -/
def execAndIndirectY (b : Byte) (s : State) : Host.Outcome State Fault Refusal :=
  definedCall 0x31#8 .and .indirectY [b] s

/-- R73: AND, 0x35, ZeroPageX. -/
def execAndZeroPageX (b : Byte) (s : State) : Host.Outcome State Fault Refusal :=
  definedCall 0x35#8 .and .zeroPageX [b] s

/-- R73: AND, 0x39, AbsoluteY. -/
def execAndAbsoluteY (l h : Byte) (s : State) : Host.Outcome State Fault Refusal :=
  definedCall 0x39#8 .and .absoluteY [l, h] s

/-- R73: AND, 0x3D, AbsoluteX. -/
def execAndAbsoluteX (l h : Byte) (s : State) : Host.Outcome State Fault Refusal :=
  definedCall 0x3D#8 .and .absoluteX [l, h] s

/-- R74: ORA, 0x01, IndirectX. -/
def execOraIndirectX (b : Byte) (s : State) : Host.Outcome State Fault Refusal :=
  definedCall 0x01#8 .ora .indirectX [b] s

/-- R74: ORA, 0x05, ZeroPage. -/
def execOraZeroPage (b : Byte) (s : State) : Host.Outcome State Fault Refusal :=
  definedCall 0x05#8 .ora .zeroPage [b] s

/-- R74: ORA, 0x09, Immediate. -/
def execOraImmediate (b : Byte) (s : State) : Host.Outcome State Fault Refusal :=
  definedCall 0x09#8 .ora .immediate [b] s

/-- R74: ORA, 0x0D, Absolute. -/
def execOraAbsolute (l h : Byte) (s : State) : Host.Outcome State Fault Refusal :=
  definedCall 0x0D#8 .ora .absolute [l, h] s

/-- R74: ORA, 0x11, IndirectY. -/
def execOraIndirectY (b : Byte) (s : State) : Host.Outcome State Fault Refusal :=
  definedCall 0x11#8 .ora .indirectY [b] s

/-- R74: ORA, 0x15, ZeroPageX. -/
def execOraZeroPageX (b : Byte) (s : State) : Host.Outcome State Fault Refusal :=
  definedCall 0x15#8 .ora .zeroPageX [b] s

/-- R74: ORA, 0x19, AbsoluteY. -/
def execOraAbsoluteY (l h : Byte) (s : State) : Host.Outcome State Fault Refusal :=
  definedCall 0x19#8 .ora .absoluteY [l, h] s

/-- R74: ORA, 0x1D, AbsoluteX. -/
def execOraAbsoluteX (l h : Byte) (s : State) : Host.Outcome State Fault Refusal :=
  definedCall 0x1D#8 .ora .absoluteX [l, h] s

/-- R75: EOR, 0x41, IndirectX. -/
def execEorIndirectX (b : Byte) (s : State) : Host.Outcome State Fault Refusal :=
  definedCall 0x41#8 .eor .indirectX [b] s

/-- R75: EOR, 0x45, ZeroPage. -/
def execEorZeroPage (b : Byte) (s : State) : Host.Outcome State Fault Refusal :=
  definedCall 0x45#8 .eor .zeroPage [b] s

/-- R75: EOR, 0x49, Immediate. -/
def execEorImmediate (b : Byte) (s : State) : Host.Outcome State Fault Refusal :=
  definedCall 0x49#8 .eor .immediate [b] s

/-- R75: EOR, 0x4D, Absolute. -/
def execEorAbsolute (l h : Byte) (s : State) : Host.Outcome State Fault Refusal :=
  definedCall 0x4D#8 .eor .absolute [l, h] s

/-- R75: EOR, 0x51, IndirectY. -/
def execEorIndirectY (b : Byte) (s : State) : Host.Outcome State Fault Refusal :=
  definedCall 0x51#8 .eor .indirectY [b] s

/-- R75: EOR, 0x55, ZeroPageX. -/
def execEorZeroPageX (b : Byte) (s : State) : Host.Outcome State Fault Refusal :=
  definedCall 0x55#8 .eor .zeroPageX [b] s

/-- R75: EOR, 0x59, AbsoluteY. -/
def execEorAbsoluteY (l h : Byte) (s : State) : Host.Outcome State Fault Refusal :=
  definedCall 0x59#8 .eor .absoluteY [l, h] s

/-- R75: EOR, 0x5D, AbsoluteX. -/
def execEorAbsoluteX (l h : Byte) (s : State) : Host.Outcome State Fault Refusal :=
  definedCall 0x5D#8 .eor .absoluteX [l, h] s

/-- R76: CMP, 0xC1, IndirectX. -/
def execCmpIndirectX (b : Byte) (s : State) : Host.Outcome State Fault Refusal :=
  definedCall 0xC1#8 .cmp .indirectX [b] s

/-- R76: CMP, 0xC5, ZeroPage. -/
def execCmpZeroPage (b : Byte) (s : State) : Host.Outcome State Fault Refusal :=
  definedCall 0xC5#8 .cmp .zeroPage [b] s

/-- R76: CMP, 0xC9, Immediate. -/
def execCmpImmediate (b : Byte) (s : State) : Host.Outcome State Fault Refusal :=
  definedCall 0xC9#8 .cmp .immediate [b] s

/-- R76: CMP, 0xCD, Absolute. -/
def execCmpAbsolute (l h : Byte) (s : State) : Host.Outcome State Fault Refusal :=
  definedCall 0xCD#8 .cmp .absolute [l, h] s

/-- R76: CMP, 0xD1, IndirectY. -/
def execCmpIndirectY (b : Byte) (s : State) : Host.Outcome State Fault Refusal :=
  definedCall 0xD1#8 .cmp .indirectY [b] s

/-- R76: CMP, 0xD5, ZeroPageX. -/
def execCmpZeroPageX (b : Byte) (s : State) : Host.Outcome State Fault Refusal :=
  definedCall 0xD5#8 .cmp .zeroPageX [b] s

/-- R76: CMP, 0xD9, AbsoluteY. -/
def execCmpAbsoluteY (l h : Byte) (s : State) : Host.Outcome State Fault Refusal :=
  definedCall 0xD9#8 .cmp .absoluteY [l, h] s

/-- R76: CMP, 0xDD, AbsoluteX. -/
def execCmpAbsoluteX (l h : Byte) (s : State) : Host.Outcome State Fault Refusal :=
  definedCall 0xDD#8 .cmp .absoluteX [l, h] s

/-- R77: CPX, 0xE0, Immediate. -/
def execCpxImmediate (b : Byte) (s : State) : Host.Outcome State Fault Refusal :=
  definedCall 0xE0#8 .cpx .immediate [b] s

/-- R77: CPX, 0xE4, ZeroPage. -/
def execCpxZeroPage (b : Byte) (s : State) : Host.Outcome State Fault Refusal :=
  definedCall 0xE4#8 .cpx .zeroPage [b] s

/-- R77: CPX, 0xEC, Absolute. -/
def execCpxAbsolute (l h : Byte) (s : State) : Host.Outcome State Fault Refusal :=
  definedCall 0xEC#8 .cpx .absolute [l, h] s

/-- R78: CPY, 0xC0, Immediate. -/
def execCpyImmediate (b : Byte) (s : State) : Host.Outcome State Fault Refusal :=
  definedCall 0xC0#8 .cpy .immediate [b] s

/-- R78: CPY, 0xC4, ZeroPage. -/
def execCpyZeroPage (b : Byte) (s : State) : Host.Outcome State Fault Refusal :=
  definedCall 0xC4#8 .cpy .zeroPage [b] s

/-- R78: CPY, 0xCC, Absolute. -/
def execCpyAbsolute (l h : Byte) (s : State) : Host.Outcome State Fault Refusal :=
  definedCall 0xCC#8 .cpy .absolute [l, h] s

/-- R79: BIT, 0x24, ZeroPage. -/
def execBitZeroPage (b : Byte) (s : State) : Host.Outcome State Fault Refusal :=
  definedCall 0x24#8 .bit .zeroPage [b] s

/-- R79: BIT, 0x2C, Absolute. -/
def execBitAbsolute (l h : Byte) (s : State) : Host.Outcome State Fault Refusal :=
  definedCall 0x2C#8 .bit .absolute [l, h] s

end Sys2Proof.Machine
end

