-- ==== Sys2Proof/Machine/Control.lean ====
section
/-! DEFINITION. Control transfer: jumps, subroutine, return, break and branches (46_control.md, R100 to R112): one meaning per opcode row, each what the rule's pseudocode returns for that opcode and
mode, handed to the host. Flags written: none. No execution effect (00_scope.md R4; log 15). -/

namespace Sys2Proof.Machine

/-- R100: JMP, 0x4C, Absolute. -/
def execJmpAbsolute (l h : Byte) (s : State) : Host.Outcome State Fault Refusal :=
  definedCall 0x4C#8 .jmp .absolute [l, h] s

/-- R100: JMP, 0x6C, Indirect. -/
def execJmpIndirect (l h : Byte) (s : State) : Host.Outcome State Fault Refusal :=
  definedCall 0x6C#8 .jmp .indirect [l, h] s

/-- R101: JSR, 0x20, Absolute. -/
def execJsr (l h : Byte) (s : State) : Host.Outcome State Fault Refusal :=
  definedCall 0x20#8 .jsr .absolute [l, h] s

/-- R102: RTS, 0x60, Implicit. -/
def execRts (s : State) : Host.Outcome State Fault Refusal :=
  definedCall 0x60#8 .rts .implicit [] s

/-- R103: RTI, 0x40, Implicit. -/
def execRti (s : State) : Host.Outcome State Fault Refusal :=
  definedCall 0x40#8 .rti .implicit [] s

/-- R104: BRK, 0x00, Implicit. -/
def execBrk (s : State) : Host.Outcome State Fault Refusal :=
  definedCall 0x00#8 .brk .implicit [] s

/-- R105: BPL, 0x10, Relative. -/
def execBpl (b : Byte) (s : State) : Host.Outcome State Fault Refusal :=
  definedCall 0x10#8 .bpl .relative [b] s

/-- R106: BMI, 0x30, Relative. -/
def execBmi (b : Byte) (s : State) : Host.Outcome State Fault Refusal :=
  definedCall 0x30#8 .bmi .relative [b] s

/-- R107: BVC, 0x50, Relative. -/
def execBvc (b : Byte) (s : State) : Host.Outcome State Fault Refusal :=
  definedCall 0x50#8 .bvc .relative [b] s

/-- R108: BVS, 0x70, Relative. -/
def execBvs (b : Byte) (s : State) : Host.Outcome State Fault Refusal :=
  definedCall 0x70#8 .bvs .relative [b] s

/-- R109: BCC, 0x90, Relative. -/
def execBcc (b : Byte) (s : State) : Host.Outcome State Fault Refusal :=
  definedCall 0x90#8 .bcc .relative [b] s

/-- R110: BCS, 0xB0, Relative. -/
def execBcs (b : Byte) (s : State) : Host.Outcome State Fault Refusal :=
  definedCall 0xB0#8 .bcs .relative [b] s

/-- R111: BNE, 0xD0, Relative. -/
def execBne (b : Byte) (s : State) : Host.Outcome State Fault Refusal :=
  definedCall 0xD0#8 .bne .relative [b] s

/-- R112: BEQ, 0xF0, Relative. -/
def execBeq (b : Byte) (s : State) : Host.Outcome State Fault Refusal :=
  definedCall 0xF0#8 .beq .relative [b] s

end Sys2Proof.Machine
end

