-- ==== Sys2Proof/Machine/FlagNop.lean ====
section
/-! DEFINITION. Flag set and clear instructions, and NOP (47_flag_and_nop.md, R113 to R120): one meaning per opcode row, each what the rule's pseudocode returns for that opcode and
mode, handed to the host. Flags written: none. No execution effect (00_scope.md R4; log 15). -/

namespace Sys2Proof.Machine

/-- R113: CLC, 0x18, Implicit. -/
def execClc (s : State) : Host.Outcome State Fault Refusal :=
  definedCall 0x18#8 .clc .implicit [] s

/-- R114: SEC, 0x38, Implicit. -/
def execSec (s : State) : Host.Outcome State Fault Refusal :=
  definedCall 0x38#8 .sec .implicit [] s

/-- R115: CLI, 0x58, Implicit. -/
def execCli (s : State) : Host.Outcome State Fault Refusal :=
  definedCall 0x58#8 .cli .implicit [] s

/-- R116: SEI, 0x78, Implicit. -/
def execSei (s : State) : Host.Outcome State Fault Refusal :=
  definedCall 0x78#8 .sei .implicit [] s

/-- R117: CLV, 0xB8, Implicit. -/
def execClv (s : State) : Host.Outcome State Fault Refusal :=
  definedCall 0xB8#8 .clv .implicit [] s

/-- R118: CLD, 0xD8, Implicit. -/
def execCld (s : State) : Host.Outcome State Fault Refusal :=
  definedCall 0xD8#8 .cld .implicit [] s

/-- R119: SED, 0xF8, Implicit. -/
def execSed (s : State) : Host.Outcome State Fault Refusal :=
  definedCall 0xF8#8 .sed .implicit [] s

/-- R120: NOP, 0xEA, Implicit. -/
def execNop (s : State) : Host.Outcome State Fault Refusal :=
  definedCall 0xEA#8 .nop .implicit [] s

end Sys2Proof.Machine
end

