-- ==== Sys2Proof/Machine/LoadStore.lean ====
section
/-! DEFINITION. Load and store instructions (41_load_store.md, R65 to R70): one meaning per opcode row, each what the rule's pseudocode returns for that opcode and
mode, handed to the host. Flags written: none. No execution effect (00_scope.md R4; log 15). -/

namespace Sys2Proof.Machine

/-- R65: LDA, 0xA1, IndirectX. -/
def execLdaIndirectX (b : Byte) (s : State) : Host.Outcome State Fault Refusal :=
  definedCall 0xA1#8 .lda .indirectX [b] s

/-- R65: LDA, 0xA5, ZeroPage. -/
def execLdaZeroPage (b : Byte) (s : State) : Host.Outcome State Fault Refusal :=
  definedCall 0xA5#8 .lda .zeroPage [b] s

/-- R65: LDA, 0xA9, Immediate. -/
def execLdaImmediate (b : Byte) (s : State) : Host.Outcome State Fault Refusal :=
  definedCall 0xA9#8 .lda .immediate [b] s

/-- R65: LDA, 0xAD, Absolute. -/
def execLdaAbsolute (l h : Byte) (s : State) : Host.Outcome State Fault Refusal :=
  definedCall 0xAD#8 .lda .absolute [l, h] s

/-- R65: LDA, 0xB1, IndirectY. -/
def execLdaIndirectY (b : Byte) (s : State) : Host.Outcome State Fault Refusal :=
  definedCall 0xB1#8 .lda .indirectY [b] s

/-- R65: LDA, 0xB5, ZeroPageX. -/
def execLdaZeroPageX (b : Byte) (s : State) : Host.Outcome State Fault Refusal :=
  definedCall 0xB5#8 .lda .zeroPageX [b] s

/-- R65: LDA, 0xB9, AbsoluteY. -/
def execLdaAbsoluteY (l h : Byte) (s : State) : Host.Outcome State Fault Refusal :=
  definedCall 0xB9#8 .lda .absoluteY [l, h] s

/-- R65: LDA, 0xBD, AbsoluteX. -/
def execLdaAbsoluteX (l h : Byte) (s : State) : Host.Outcome State Fault Refusal :=
  definedCall 0xBD#8 .lda .absoluteX [l, h] s

/-- R66: LDX, 0xA2, Immediate. -/
def execLdxImmediate (b : Byte) (s : State) : Host.Outcome State Fault Refusal :=
  definedCall 0xA2#8 .ldx .immediate [b] s

/-- R66: LDX, 0xA6, ZeroPage. -/
def execLdxZeroPage (b : Byte) (s : State) : Host.Outcome State Fault Refusal :=
  definedCall 0xA6#8 .ldx .zeroPage [b] s

/-- R66: LDX, 0xAE, Absolute. -/
def execLdxAbsolute (l h : Byte) (s : State) : Host.Outcome State Fault Refusal :=
  definedCall 0xAE#8 .ldx .absolute [l, h] s

/-- R66: LDX, 0xB6, ZeroPageY. -/
def execLdxZeroPageY (b : Byte) (s : State) : Host.Outcome State Fault Refusal :=
  definedCall 0xB6#8 .ldx .zeroPageY [b] s

/-- R66: LDX, 0xBE, AbsoluteY. -/
def execLdxAbsoluteY (l h : Byte) (s : State) : Host.Outcome State Fault Refusal :=
  definedCall 0xBE#8 .ldx .absoluteY [l, h] s

/-- R67: LDY, 0xA0, Immediate. -/
def execLdyImmediate (b : Byte) (s : State) : Host.Outcome State Fault Refusal :=
  definedCall 0xA0#8 .ldy .immediate [b] s

/-- R67: LDY, 0xA4, ZeroPage. -/
def execLdyZeroPage (b : Byte) (s : State) : Host.Outcome State Fault Refusal :=
  definedCall 0xA4#8 .ldy .zeroPage [b] s

/-- R67: LDY, 0xAC, Absolute. -/
def execLdyAbsolute (l h : Byte) (s : State) : Host.Outcome State Fault Refusal :=
  definedCall 0xAC#8 .ldy .absolute [l, h] s

/-- R67: LDY, 0xB4, ZeroPageX. -/
def execLdyZeroPageX (b : Byte) (s : State) : Host.Outcome State Fault Refusal :=
  definedCall 0xB4#8 .ldy .zeroPageX [b] s

/-- R67: LDY, 0xBC, AbsoluteX. -/
def execLdyAbsoluteX (l h : Byte) (s : State) : Host.Outcome State Fault Refusal :=
  definedCall 0xBC#8 .ldy .absoluteX [l, h] s

/-- R68: STA, 0x81, IndirectX. -/
def execStaIndirectX (b : Byte) (s : State) : Host.Outcome State Fault Refusal :=
  definedCall 0x81#8 .sta .indirectX [b] s

/-- R68: STA, 0x85, ZeroPage. -/
def execStaZeroPage (b : Byte) (s : State) : Host.Outcome State Fault Refusal :=
  definedCall 0x85#8 .sta .zeroPage [b] s

/-- R68: STA, 0x8D, Absolute. -/
def execStaAbsolute (l h : Byte) (s : State) : Host.Outcome State Fault Refusal :=
  definedCall 0x8D#8 .sta .absolute [l, h] s

/-- R68: STA, 0x91, IndirectY. -/
def execStaIndirectY (b : Byte) (s : State) : Host.Outcome State Fault Refusal :=
  definedCall 0x91#8 .sta .indirectY [b] s

/-- R68: STA, 0x95, ZeroPageX. -/
def execStaZeroPageX (b : Byte) (s : State) : Host.Outcome State Fault Refusal :=
  definedCall 0x95#8 .sta .zeroPageX [b] s

/-- R68: STA, 0x99, AbsoluteY. -/
def execStaAbsoluteY (l h : Byte) (s : State) : Host.Outcome State Fault Refusal :=
  definedCall 0x99#8 .sta .absoluteY [l, h] s

/-- R68: STA, 0x9D, AbsoluteX. -/
def execStaAbsoluteX (l h : Byte) (s : State) : Host.Outcome State Fault Refusal :=
  definedCall 0x9D#8 .sta .absoluteX [l, h] s

/-- R69: STX, 0x86, ZeroPage. -/
def execStxZeroPage (b : Byte) (s : State) : Host.Outcome State Fault Refusal :=
  definedCall 0x86#8 .stx .zeroPage [b] s

/-- R69: STX, 0x8E, Absolute. -/
def execStxAbsolute (l h : Byte) (s : State) : Host.Outcome State Fault Refusal :=
  definedCall 0x8E#8 .stx .absolute [l, h] s

/-- R69: STX, 0x96, ZeroPageY. -/
def execStxZeroPageY (b : Byte) (s : State) : Host.Outcome State Fault Refusal :=
  definedCall 0x96#8 .stx .zeroPageY [b] s

/-- R70: STY, 0x84, ZeroPage. -/
def execStyZeroPage (b : Byte) (s : State) : Host.Outcome State Fault Refusal :=
  definedCall 0x84#8 .sty .zeroPage [b] s

/-- R70: STY, 0x8C, Absolute. -/
def execStyAbsolute (l h : Byte) (s : State) : Host.Outcome State Fault Refusal :=
  definedCall 0x8C#8 .sty .absolute [l, h] s

/-- R70: STY, 0x94, ZeroPageX. -/
def execStyZeroPageX (b : Byte) (s : State) : Host.Outcome State Fault Refusal :=
  definedCall 0x94#8 .sty .zeroPageX [b] s

end Sys2Proof.Machine
end

