-- ==== Sys2Proof/Machine/ReadModifyWrite.lean ====
section
/-! DEFINITION. Shift, rotate, increment and decrement of memory (43_read_modify_write.md, R80 to R85): one meaning per opcode row, each what the rule's pseudocode returns for that opcode and
mode, handed to the host. Flags written: none. No execution effect (00_scope.md R4; log 15). -/

namespace Sys2Proof.Machine

/-- R80: ASL, 0x06, ZeroPage. -/
def execAslZeroPage (b : Byte) (s : State) : Host.Outcome State Fault Refusal :=
  definedCall 0x06#8 .asl .zeroPage [b] s

/-- R80: ASL, 0x0A, Accumulator. -/
def execAslAccumulator (s : State) : Host.Outcome State Fault Refusal :=
  definedCall 0x0A#8 .asl .accumulator [] s

/-- R80: ASL, 0x0E, Absolute. -/
def execAslAbsolute (l h : Byte) (s : State) : Host.Outcome State Fault Refusal :=
  definedCall 0x0E#8 .asl .absolute [l, h] s

/-- R80: ASL, 0x16, ZeroPageX. -/
def execAslZeroPageX (b : Byte) (s : State) : Host.Outcome State Fault Refusal :=
  definedCall 0x16#8 .asl .zeroPageX [b] s

/-- R80: ASL, 0x1E, AbsoluteX. -/
def execAslAbsoluteX (l h : Byte) (s : State) : Host.Outcome State Fault Refusal :=
  definedCall 0x1E#8 .asl .absoluteX [l, h] s

/-- R81: LSR, 0x46, ZeroPage. -/
def execLsrZeroPage (b : Byte) (s : State) : Host.Outcome State Fault Refusal :=
  definedCall 0x46#8 .lsr .zeroPage [b] s

/-- R81: LSR, 0x4A, Accumulator. -/
def execLsrAccumulator (s : State) : Host.Outcome State Fault Refusal :=
  definedCall 0x4A#8 .lsr .accumulator [] s

/-- R81: LSR, 0x4E, Absolute. -/
def execLsrAbsolute (l h : Byte) (s : State) : Host.Outcome State Fault Refusal :=
  definedCall 0x4E#8 .lsr .absolute [l, h] s

/-- R81: LSR, 0x56, ZeroPageX. -/
def execLsrZeroPageX (b : Byte) (s : State) : Host.Outcome State Fault Refusal :=
  definedCall 0x56#8 .lsr .zeroPageX [b] s

/-- R81: LSR, 0x5E, AbsoluteX. -/
def execLsrAbsoluteX (l h : Byte) (s : State) : Host.Outcome State Fault Refusal :=
  definedCall 0x5E#8 .lsr .absoluteX [l, h] s

/-- R82: ROL, 0x26, ZeroPage. -/
def execRolZeroPage (b : Byte) (s : State) : Host.Outcome State Fault Refusal :=
  definedCall 0x26#8 .rol .zeroPage [b] s

/-- R82: ROL, 0x2A, Accumulator. -/
def execRolAccumulator (s : State) : Host.Outcome State Fault Refusal :=
  definedCall 0x2A#8 .rol .accumulator [] s

/-- R82: ROL, 0x2E, Absolute. -/
def execRolAbsolute (l h : Byte) (s : State) : Host.Outcome State Fault Refusal :=
  definedCall 0x2E#8 .rol .absolute [l, h] s

/-- R82: ROL, 0x36, ZeroPageX. -/
def execRolZeroPageX (b : Byte) (s : State) : Host.Outcome State Fault Refusal :=
  definedCall 0x36#8 .rol .zeroPageX [b] s

/-- R82: ROL, 0x3E, AbsoluteX. -/
def execRolAbsoluteX (l h : Byte) (s : State) : Host.Outcome State Fault Refusal :=
  definedCall 0x3E#8 .rol .absoluteX [l, h] s

/-- R83: ROR, 0x66, ZeroPage. -/
def execRorZeroPage (b : Byte) (s : State) : Host.Outcome State Fault Refusal :=
  definedCall 0x66#8 .ror .zeroPage [b] s

/-- R83: ROR, 0x6A, Accumulator. -/
def execRorAccumulator (s : State) : Host.Outcome State Fault Refusal :=
  definedCall 0x6A#8 .ror .accumulator [] s

/-- R83: ROR, 0x6E, Absolute. -/
def execRorAbsolute (l h : Byte) (s : State) : Host.Outcome State Fault Refusal :=
  definedCall 0x6E#8 .ror .absolute [l, h] s

/-- R83: ROR, 0x76, ZeroPageX. -/
def execRorZeroPageX (b : Byte) (s : State) : Host.Outcome State Fault Refusal :=
  definedCall 0x76#8 .ror .zeroPageX [b] s

/-- R83: ROR, 0x7E, AbsoluteX. -/
def execRorAbsoluteX (l h : Byte) (s : State) : Host.Outcome State Fault Refusal :=
  definedCall 0x7E#8 .ror .absoluteX [l, h] s

/-- R84: INC, 0xE6, ZeroPage. -/
def execIncZeroPage (b : Byte) (s : State) : Host.Outcome State Fault Refusal :=
  definedCall 0xE6#8 .inc .zeroPage [b] s

/-- R84: INC, 0xEE, Absolute. -/
def execIncAbsolute (l h : Byte) (s : State) : Host.Outcome State Fault Refusal :=
  definedCall 0xEE#8 .inc .absolute [l, h] s

/-- R84: INC, 0xF6, ZeroPageX. -/
def execIncZeroPageX (b : Byte) (s : State) : Host.Outcome State Fault Refusal :=
  definedCall 0xF6#8 .inc .zeroPageX [b] s

/-- R84: INC, 0xFE, AbsoluteX. -/
def execIncAbsoluteX (l h : Byte) (s : State) : Host.Outcome State Fault Refusal :=
  definedCall 0xFE#8 .inc .absoluteX [l, h] s

/-- R85: DEC, 0xC6, ZeroPage. -/
def execDecZeroPage (b : Byte) (s : State) : Host.Outcome State Fault Refusal :=
  definedCall 0xC6#8 .dec .zeroPage [b] s

/-- R85: DEC, 0xCE, Absolute. -/
def execDecAbsolute (l h : Byte) (s : State) : Host.Outcome State Fault Refusal :=
  definedCall 0xCE#8 .dec .absolute [l, h] s

/-- R85: DEC, 0xD6, ZeroPageX. -/
def execDecZeroPageX (b : Byte) (s : State) : Host.Outcome State Fault Refusal :=
  definedCall 0xD6#8 .dec .zeroPageX [b] s

/-- R85: DEC, 0xDE, AbsoluteX. -/
def execDecAbsoluteX (l h : Byte) (s : State) : Host.Outcome State Fault Refusal :=
  definedCall 0xDE#8 .dec .absoluteX [l, h] s

end Sys2Proof.Machine
end

