-- ==== Sys2Proof/Machine/Register.lean ====
section
/-! DEFINITION. Register transfer, increment and decrement instructions (44_register.md, R86 to R95): one meaning per opcode row, each what the rule's pseudocode returns for that opcode and
mode, handed to the host. Flags written: none. No execution effect (00_scope.md R4; log 15). -/

namespace Sys2Proof.Machine

/-- R86: TAX, 0xAA, Implicit. -/
def execTax (s : State) : Host.Outcome State Fault Refusal :=
  definedCall 0xAA#8 .tax .implicit [] s

/-- R87: TAY, 0xA8, Implicit. -/
def execTay (s : State) : Host.Outcome State Fault Refusal :=
  definedCall 0xA8#8 .tay .implicit [] s

/-- R88: TSX, 0xBA, Implicit. -/
def execTsx (s : State) : Host.Outcome State Fault Refusal :=
  definedCall 0xBA#8 .tsx .implicit [] s

/-- R89: TXA, 0x8A, Implicit. -/
def execTxa (s : State) : Host.Outcome State Fault Refusal :=
  definedCall 0x8A#8 .txa .implicit [] s

/-- R90: TXS, 0x9A, Implicit. -/
def execTxs (s : State) : Host.Outcome State Fault Refusal :=
  definedCall 0x9A#8 .txs .implicit [] s

/-- R91: TYA, 0x98, Implicit. -/
def execTya (s : State) : Host.Outcome State Fault Refusal :=
  definedCall 0x98#8 .tya .implicit [] s

/-- R92: INX, 0xE8, Implicit. -/
def execInx (s : State) : Host.Outcome State Fault Refusal :=
  definedCall 0xE8#8 .inx .implicit [] s

/-- R93: INY, 0xC8, Implicit. -/
def execIny (s : State) : Host.Outcome State Fault Refusal :=
  definedCall 0xC8#8 .iny .implicit [] s

/-- R94: DEX, 0xCA, Implicit. -/
def execDex (s : State) : Host.Outcome State Fault Refusal :=
  definedCall 0xCA#8 .dex .implicit [] s

/-- R95: DEY, 0x88, Implicit. -/
def execDey (s : State) : Host.Outcome State Fault Refusal :=
  definedCall 0x88#8 .dey .implicit [] s

end Sys2Proof.Machine
end

