-- ==== Sys2Proof/Machine/Stack.lean ====
section
/-! DEFINITION. Stack push and pull instructions (45_stack.md, R96 to R99): one meaning per opcode row, each what the rule's pseudocode returns for that opcode and
mode, handed to the host. Flags written: none. No execution effect (00_scope.md R4; log 15). -/

namespace Sys2Proof.Machine

/-- R96: PHA, 0x48, Implicit. -/
def execPha (s : State) : Host.Outcome State Fault Refusal :=
  definedCall 0x48#8 .pha .implicit [] s

/-- R97: PHP, 0x08, Implicit. -/
def execPhp (s : State) : Host.Outcome State Fault Refusal :=
  definedCall 0x08#8 .php .implicit [] s

/-- R98: PLA, 0x68, Implicit. -/
def execPla (s : State) : Host.Outcome State Fault Refusal :=
  definedCall 0x68#8 .pla .implicit [] s

/-- R99: PLP, 0x28, Implicit. -/
def execPlp (s : State) : Host.Outcome State Fault Refusal :=
  definedCall 0x28#8 .plp .implicit [] s

end Sys2Proof.Machine
end

