-- ==== Sys2Proof/Machine/Undefined.lean ====
section
/-! DEFINITION. Undefined opcode values (48_undefined.md R121, R122): one meaning per value, each the `Undefined` record of
its opcode, length 1, text `???`. None has a mnemonic, a mode, an operand byte or any other effect (log 14). -/

namespace Sys2Proof.Machine

/-- R121: 0x02. -/
def execUndefined02 (s : State) : Host.Outcome State Fault Refusal := undefinedCall 0x02#8 s

/-- R121: 0x03. -/
def execUndefined03 (s : State) : Host.Outcome State Fault Refusal := undefinedCall 0x03#8 s

/-- R121: 0x04. -/
def execUndefined04 (s : State) : Host.Outcome State Fault Refusal := undefinedCall 0x04#8 s

/-- R121: 0x07. -/
def execUndefined07 (s : State) : Host.Outcome State Fault Refusal := undefinedCall 0x07#8 s

/-- R121: 0x0B. -/
def execUndefined0B (s : State) : Host.Outcome State Fault Refusal := undefinedCall 0x0B#8 s

/-- R121: 0x0C. -/
def execUndefined0C (s : State) : Host.Outcome State Fault Refusal := undefinedCall 0x0C#8 s

/-- R121: 0x0F. -/
def execUndefined0F (s : State) : Host.Outcome State Fault Refusal := undefinedCall 0x0F#8 s

/-- R121: 0x12. -/
def execUndefined12 (s : State) : Host.Outcome State Fault Refusal := undefinedCall 0x12#8 s

/-- R121: 0x13. -/
def execUndefined13 (s : State) : Host.Outcome State Fault Refusal := undefinedCall 0x13#8 s

/-- R121: 0x14. -/
def execUndefined14 (s : State) : Host.Outcome State Fault Refusal := undefinedCall 0x14#8 s

/-- R121: 0x17. -/
def execUndefined17 (s : State) : Host.Outcome State Fault Refusal := undefinedCall 0x17#8 s

/-- R121: 0x1A. -/
def execUndefined1A (s : State) : Host.Outcome State Fault Refusal := undefinedCall 0x1A#8 s

/-- R121: 0x1B. -/
def execUndefined1B (s : State) : Host.Outcome State Fault Refusal := undefinedCall 0x1B#8 s

/-- R121: 0x1C. -/
def execUndefined1C (s : State) : Host.Outcome State Fault Refusal := undefinedCall 0x1C#8 s

/-- R121: 0x1F. -/
def execUndefined1F (s : State) : Host.Outcome State Fault Refusal := undefinedCall 0x1F#8 s

/-- R121: 0x22. -/
def execUndefined22 (s : State) : Host.Outcome State Fault Refusal := undefinedCall 0x22#8 s

/-- R121: 0x23. -/
def execUndefined23 (s : State) : Host.Outcome State Fault Refusal := undefinedCall 0x23#8 s

/-- R121: 0x27. -/
def execUndefined27 (s : State) : Host.Outcome State Fault Refusal := undefinedCall 0x27#8 s

/-- R121: 0x2B. -/
def execUndefined2B (s : State) : Host.Outcome State Fault Refusal := undefinedCall 0x2B#8 s

/-- R121: 0x2F. -/
def execUndefined2F (s : State) : Host.Outcome State Fault Refusal := undefinedCall 0x2F#8 s

/-- R121: 0x32. -/
def execUndefined32 (s : State) : Host.Outcome State Fault Refusal := undefinedCall 0x32#8 s

/-- R121: 0x33. -/
def execUndefined33 (s : State) : Host.Outcome State Fault Refusal := undefinedCall 0x33#8 s

/-- R121: 0x34. -/
def execUndefined34 (s : State) : Host.Outcome State Fault Refusal := undefinedCall 0x34#8 s

/-- R121: 0x37. -/
def execUndefined37 (s : State) : Host.Outcome State Fault Refusal := undefinedCall 0x37#8 s

/-- R121: 0x3A. -/
def execUndefined3A (s : State) : Host.Outcome State Fault Refusal := undefinedCall 0x3A#8 s

/-- R121: 0x3B. -/
def execUndefined3B (s : State) : Host.Outcome State Fault Refusal := undefinedCall 0x3B#8 s

/-- R121: 0x3C. -/
def execUndefined3C (s : State) : Host.Outcome State Fault Refusal := undefinedCall 0x3C#8 s

/-- R121: 0x3F. -/
def execUndefined3F (s : State) : Host.Outcome State Fault Refusal := undefinedCall 0x3F#8 s

/-- R121: 0x42. -/
def execUndefined42 (s : State) : Host.Outcome State Fault Refusal := undefinedCall 0x42#8 s

/-- R121: 0x43. -/
def execUndefined43 (s : State) : Host.Outcome State Fault Refusal := undefinedCall 0x43#8 s

/-- R121: 0x44. -/
def execUndefined44 (s : State) : Host.Outcome State Fault Refusal := undefinedCall 0x44#8 s

/-- R121: 0x47. -/
def execUndefined47 (s : State) : Host.Outcome State Fault Refusal := undefinedCall 0x47#8 s

/-- R121: 0x4B. -/
def execUndefined4B (s : State) : Host.Outcome State Fault Refusal := undefinedCall 0x4B#8 s

/-- R121: 0x4F. -/
def execUndefined4F (s : State) : Host.Outcome State Fault Refusal := undefinedCall 0x4F#8 s

/-- R121: 0x52. -/
def execUndefined52 (s : State) : Host.Outcome State Fault Refusal := undefinedCall 0x52#8 s

/-- R121: 0x53. -/
def execUndefined53 (s : State) : Host.Outcome State Fault Refusal := undefinedCall 0x53#8 s

/-- R121: 0x54. -/
def execUndefined54 (s : State) : Host.Outcome State Fault Refusal := undefinedCall 0x54#8 s

/-- R121: 0x57. -/
def execUndefined57 (s : State) : Host.Outcome State Fault Refusal := undefinedCall 0x57#8 s

/-- R121: 0x5A. -/
def execUndefined5A (s : State) : Host.Outcome State Fault Refusal := undefinedCall 0x5A#8 s

/-- R121: 0x5B. -/
def execUndefined5B (s : State) : Host.Outcome State Fault Refusal := undefinedCall 0x5B#8 s

/-- R121: 0x5C. -/
def execUndefined5C (s : State) : Host.Outcome State Fault Refusal := undefinedCall 0x5C#8 s

/-- R121: 0x5F. -/
def execUndefined5F (s : State) : Host.Outcome State Fault Refusal := undefinedCall 0x5F#8 s

/-- R121: 0x62. -/
def execUndefined62 (s : State) : Host.Outcome State Fault Refusal := undefinedCall 0x62#8 s

/-- R121: 0x63. -/
def execUndefined63 (s : State) : Host.Outcome State Fault Refusal := undefinedCall 0x63#8 s

/-- R121: 0x64. -/
def execUndefined64 (s : State) : Host.Outcome State Fault Refusal := undefinedCall 0x64#8 s

/-- R121: 0x67. -/
def execUndefined67 (s : State) : Host.Outcome State Fault Refusal := undefinedCall 0x67#8 s

/-- R121: 0x6B. -/
def execUndefined6B (s : State) : Host.Outcome State Fault Refusal := undefinedCall 0x6B#8 s

/-- R121: 0x6F. -/
def execUndefined6F (s : State) : Host.Outcome State Fault Refusal := undefinedCall 0x6F#8 s

/-- R121: 0x72. -/
def execUndefined72 (s : State) : Host.Outcome State Fault Refusal := undefinedCall 0x72#8 s

/-- R121: 0x73. -/
def execUndefined73 (s : State) : Host.Outcome State Fault Refusal := undefinedCall 0x73#8 s

/-- R121: 0x74. -/
def execUndefined74 (s : State) : Host.Outcome State Fault Refusal := undefinedCall 0x74#8 s

/-- R121: 0x77. -/
def execUndefined77 (s : State) : Host.Outcome State Fault Refusal := undefinedCall 0x77#8 s

/-- R121: 0x7A. -/
def execUndefined7A (s : State) : Host.Outcome State Fault Refusal := undefinedCall 0x7A#8 s

/-- R121: 0x7B. -/
def execUndefined7B (s : State) : Host.Outcome State Fault Refusal := undefinedCall 0x7B#8 s

/-- R121: 0x7C. -/
def execUndefined7C (s : State) : Host.Outcome State Fault Refusal := undefinedCall 0x7C#8 s

/-- R121: 0x7F. -/
def execUndefined7F (s : State) : Host.Outcome State Fault Refusal := undefinedCall 0x7F#8 s

/-- R121: 0x80. -/
def execUndefined80 (s : State) : Host.Outcome State Fault Refusal := undefinedCall 0x80#8 s

/-- R121: 0x82. -/
def execUndefined82 (s : State) : Host.Outcome State Fault Refusal := undefinedCall 0x82#8 s

/-- R121: 0x83. -/
def execUndefined83 (s : State) : Host.Outcome State Fault Refusal := undefinedCall 0x83#8 s

/-- R121: 0x87. -/
def execUndefined87 (s : State) : Host.Outcome State Fault Refusal := undefinedCall 0x87#8 s

/-- R121: 0x89. -/
def execUndefined89 (s : State) : Host.Outcome State Fault Refusal := undefinedCall 0x89#8 s

/-- R121: 0x8B. -/
def execUndefined8B (s : State) : Host.Outcome State Fault Refusal := undefinedCall 0x8B#8 s

/-- R121: 0x8F. -/
def execUndefined8F (s : State) : Host.Outcome State Fault Refusal := undefinedCall 0x8F#8 s

/-- R121: 0x92. -/
def execUndefined92 (s : State) : Host.Outcome State Fault Refusal := undefinedCall 0x92#8 s

/-- R121: 0x93. -/
def execUndefined93 (s : State) : Host.Outcome State Fault Refusal := undefinedCall 0x93#8 s

/-- R121: 0x97. -/
def execUndefined97 (s : State) : Host.Outcome State Fault Refusal := undefinedCall 0x97#8 s

/-- R121: 0x9B. -/
def execUndefined9B (s : State) : Host.Outcome State Fault Refusal := undefinedCall 0x9B#8 s

/-- R121: 0x9C. -/
def execUndefined9C (s : State) : Host.Outcome State Fault Refusal := undefinedCall 0x9C#8 s

/-- R121: 0x9E. -/
def execUndefined9E (s : State) : Host.Outcome State Fault Refusal := undefinedCall 0x9E#8 s

/-- R121: 0x9F. -/
def execUndefined9F (s : State) : Host.Outcome State Fault Refusal := undefinedCall 0x9F#8 s

/-- R121: 0xA3. -/
def execUndefinedA3 (s : State) : Host.Outcome State Fault Refusal := undefinedCall 0xA3#8 s

/-- R121: 0xA7. -/
def execUndefinedA7 (s : State) : Host.Outcome State Fault Refusal := undefinedCall 0xA7#8 s

/-- R121: 0xAB. -/
def execUndefinedAB (s : State) : Host.Outcome State Fault Refusal := undefinedCall 0xAB#8 s

/-- R121: 0xAF. -/
def execUndefinedAF (s : State) : Host.Outcome State Fault Refusal := undefinedCall 0xAF#8 s

/-- R121: 0xB2. -/
def execUndefinedB2 (s : State) : Host.Outcome State Fault Refusal := undefinedCall 0xB2#8 s

/-- R121: 0xB3. -/
def execUndefinedB3 (s : State) : Host.Outcome State Fault Refusal := undefinedCall 0xB3#8 s

/-- R121: 0xB7. -/
def execUndefinedB7 (s : State) : Host.Outcome State Fault Refusal := undefinedCall 0xB7#8 s

/-- R121: 0xBB. -/
def execUndefinedBB (s : State) : Host.Outcome State Fault Refusal := undefinedCall 0xBB#8 s

/-- R121: 0xBF. -/
def execUndefinedBF (s : State) : Host.Outcome State Fault Refusal := undefinedCall 0xBF#8 s

/-- R121: 0xC2. -/
def execUndefinedC2 (s : State) : Host.Outcome State Fault Refusal := undefinedCall 0xC2#8 s

/-- R121: 0xC3. -/
def execUndefinedC3 (s : State) : Host.Outcome State Fault Refusal := undefinedCall 0xC3#8 s

/-- R121: 0xC7. -/
def execUndefinedC7 (s : State) : Host.Outcome State Fault Refusal := undefinedCall 0xC7#8 s

/-- R121: 0xCB. -/
def execUndefinedCB (s : State) : Host.Outcome State Fault Refusal := undefinedCall 0xCB#8 s

/-- R121: 0xCF. -/
def execUndefinedCF (s : State) : Host.Outcome State Fault Refusal := undefinedCall 0xCF#8 s

/-- R121: 0xD2. -/
def execUndefinedD2 (s : State) : Host.Outcome State Fault Refusal := undefinedCall 0xD2#8 s

/-- R121: 0xD3. -/
def execUndefinedD3 (s : State) : Host.Outcome State Fault Refusal := undefinedCall 0xD3#8 s

/-- R121: 0xD4. -/
def execUndefinedD4 (s : State) : Host.Outcome State Fault Refusal := undefinedCall 0xD4#8 s

/-- R121: 0xD7. -/
def execUndefinedD7 (s : State) : Host.Outcome State Fault Refusal := undefinedCall 0xD7#8 s

/-- R121: 0xDA. -/
def execUndefinedDA (s : State) : Host.Outcome State Fault Refusal := undefinedCall 0xDA#8 s

/-- R121: 0xDB. -/
def execUndefinedDB (s : State) : Host.Outcome State Fault Refusal := undefinedCall 0xDB#8 s

/-- R121: 0xDC. -/
def execUndefinedDC (s : State) : Host.Outcome State Fault Refusal := undefinedCall 0xDC#8 s

/-- R121: 0xDF. -/
def execUndefinedDF (s : State) : Host.Outcome State Fault Refusal := undefinedCall 0xDF#8 s

/-- R121: 0xE2. -/
def execUndefinedE2 (s : State) : Host.Outcome State Fault Refusal := undefinedCall 0xE2#8 s

/-- R121: 0xE3. -/
def execUndefinedE3 (s : State) : Host.Outcome State Fault Refusal := undefinedCall 0xE3#8 s

/-- R121: 0xE7. -/
def execUndefinedE7 (s : State) : Host.Outcome State Fault Refusal := undefinedCall 0xE7#8 s

/-- R121: 0xEB. -/
def execUndefinedEB (s : State) : Host.Outcome State Fault Refusal := undefinedCall 0xEB#8 s

/-- R121: 0xEF. -/
def execUndefinedEF (s : State) : Host.Outcome State Fault Refusal := undefinedCall 0xEF#8 s

/-- R121: 0xF2. -/
def execUndefinedF2 (s : State) : Host.Outcome State Fault Refusal := undefinedCall 0xF2#8 s

/-- R121: 0xF3. -/
def execUndefinedF3 (s : State) : Host.Outcome State Fault Refusal := undefinedCall 0xF3#8 s

/-- R121: 0xF4. -/
def execUndefinedF4 (s : State) : Host.Outcome State Fault Refusal := undefinedCall 0xF4#8 s

/-- R121: 0xF7. -/
def execUndefinedF7 (s : State) : Host.Outcome State Fault Refusal := undefinedCall 0xF7#8 s

/-- R121: 0xFA. -/
def execUndefinedFA (s : State) : Host.Outcome State Fault Refusal := undefinedCall 0xFA#8 s

/-- R121: 0xFB. -/
def execUndefinedFB (s : State) : Host.Outcome State Fault Refusal := undefinedCall 0xFB#8 s

/-- R121: 0xFC. -/
def execUndefinedFC (s : State) : Host.Outcome State Fault Refusal := undefinedCall 0xFC#8 s

/-- R121: 0xFF. -/
def execUndefinedFF (s : State) : Host.Outcome State Fault Refusal := undefinedCall 0xFF#8 s

end Sys2Proof.Machine
end

