-- ==== Sys2Proof/Machine/Dispatch.lean ====
section
/-! DEFINITION. The meaning of every instruction: one arm per constructor of `Instr`, each one direct call. -/

namespace Sys2Proof.Machine

def exec (i : Instr) (s : State) : Host.Outcome State Fault Refusal :=
  match i with
  -- Load and store instructions (41_load_store.md)
  | .ldaIndirectX b => Sys2Proof.Machine.execLdaIndirectX b s
  | .ldaZeroPage b => Sys2Proof.Machine.execLdaZeroPage b s
  | .ldaImmediate b => Sys2Proof.Machine.execLdaImmediate b s
  | .ldaAbsolute l h => Sys2Proof.Machine.execLdaAbsolute l h s
  | .ldaIndirectY b => Sys2Proof.Machine.execLdaIndirectY b s
  | .ldaZeroPageX b => Sys2Proof.Machine.execLdaZeroPageX b s
  | .ldaAbsoluteY l h => Sys2Proof.Machine.execLdaAbsoluteY l h s
  | .ldaAbsoluteX l h => Sys2Proof.Machine.execLdaAbsoluteX l h s
  | .ldxImmediate b => Sys2Proof.Machine.execLdxImmediate b s
  | .ldxZeroPage b => Sys2Proof.Machine.execLdxZeroPage b s
  | .ldxAbsolute l h => Sys2Proof.Machine.execLdxAbsolute l h s
  | .ldxZeroPageY b => Sys2Proof.Machine.execLdxZeroPageY b s
  | .ldxAbsoluteY l h => Sys2Proof.Machine.execLdxAbsoluteY l h s
  | .ldyImmediate b => Sys2Proof.Machine.execLdyImmediate b s
  | .ldyZeroPage b => Sys2Proof.Machine.execLdyZeroPage b s
  | .ldyAbsolute l h => Sys2Proof.Machine.execLdyAbsolute l h s
  | .ldyZeroPageX b => Sys2Proof.Machine.execLdyZeroPageX b s
  | .ldyAbsoluteX l h => Sys2Proof.Machine.execLdyAbsoluteX l h s
  | .staIndirectX b => Sys2Proof.Machine.execStaIndirectX b s
  | .staZeroPage b => Sys2Proof.Machine.execStaZeroPage b s
  | .staAbsolute l h => Sys2Proof.Machine.execStaAbsolute l h s
  | .staIndirectY b => Sys2Proof.Machine.execStaIndirectY b s
  | .staZeroPageX b => Sys2Proof.Machine.execStaZeroPageX b s
  | .staAbsoluteY l h => Sys2Proof.Machine.execStaAbsoluteY l h s
  | .staAbsoluteX l h => Sys2Proof.Machine.execStaAbsoluteX l h s
  | .stxZeroPage b => Sys2Proof.Machine.execStxZeroPage b s
  | .stxAbsolute l h => Sys2Proof.Machine.execStxAbsolute l h s
  | .stxZeroPageY b => Sys2Proof.Machine.execStxZeroPageY b s
  | .styZeroPage b => Sys2Proof.Machine.execStyZeroPage b s
  | .styAbsolute l h => Sys2Proof.Machine.execStyAbsolute l h s
  | .styZeroPageX b => Sys2Proof.Machine.execStyZeroPageX b s
  -- Arithmetic, logical, compare and bit-test instructions (42_alu.md)
  | .adcIndirectX b => Sys2Proof.Machine.execAdcIndirectX b s
  | .adcZeroPage b => Sys2Proof.Machine.execAdcZeroPage b s
  | .adcImmediate b => Sys2Proof.Machine.execAdcImmediate b s
  | .adcAbsolute l h => Sys2Proof.Machine.execAdcAbsolute l h s
  | .adcIndirectY b => Sys2Proof.Machine.execAdcIndirectY b s
  | .adcZeroPageX b => Sys2Proof.Machine.execAdcZeroPageX b s
  | .adcAbsoluteY l h => Sys2Proof.Machine.execAdcAbsoluteY l h s
  | .adcAbsoluteX l h => Sys2Proof.Machine.execAdcAbsoluteX l h s
  | .sbcIndirectX b => Sys2Proof.Machine.execSbcIndirectX b s
  | .sbcZeroPage b => Sys2Proof.Machine.execSbcZeroPage b s
  | .sbcImmediate b => Sys2Proof.Machine.execSbcImmediate b s
  | .sbcAbsolute l h => Sys2Proof.Machine.execSbcAbsolute l h s
  | .sbcIndirectY b => Sys2Proof.Machine.execSbcIndirectY b s
  | .sbcZeroPageX b => Sys2Proof.Machine.execSbcZeroPageX b s
  | .sbcAbsoluteY l h => Sys2Proof.Machine.execSbcAbsoluteY l h s
  | .sbcAbsoluteX l h => Sys2Proof.Machine.execSbcAbsoluteX l h s
  | .andIndirectX b => Sys2Proof.Machine.execAndIndirectX b s
  | .andZeroPage b => Sys2Proof.Machine.execAndZeroPage b s
  | .andImmediate b => Sys2Proof.Machine.execAndImmediate b s
  | .andAbsolute l h => Sys2Proof.Machine.execAndAbsolute l h s
  | .andIndirectY b => Sys2Proof.Machine.execAndIndirectY b s
  | .andZeroPageX b => Sys2Proof.Machine.execAndZeroPageX b s
  | .andAbsoluteY l h => Sys2Proof.Machine.execAndAbsoluteY l h s
  | .andAbsoluteX l h => Sys2Proof.Machine.execAndAbsoluteX l h s
  | .oraIndirectX b => Sys2Proof.Machine.execOraIndirectX b s
  | .oraZeroPage b => Sys2Proof.Machine.execOraZeroPage b s
  | .oraImmediate b => Sys2Proof.Machine.execOraImmediate b s
  | .oraAbsolute l h => Sys2Proof.Machine.execOraAbsolute l h s
  | .oraIndirectY b => Sys2Proof.Machine.execOraIndirectY b s
  | .oraZeroPageX b => Sys2Proof.Machine.execOraZeroPageX b s
  | .oraAbsoluteY l h => Sys2Proof.Machine.execOraAbsoluteY l h s
  | .oraAbsoluteX l h => Sys2Proof.Machine.execOraAbsoluteX l h s
  | .eorIndirectX b => Sys2Proof.Machine.execEorIndirectX b s
  | .eorZeroPage b => Sys2Proof.Machine.execEorZeroPage b s
  | .eorImmediate b => Sys2Proof.Machine.execEorImmediate b s
  | .eorAbsolute l h => Sys2Proof.Machine.execEorAbsolute l h s
  | .eorIndirectY b => Sys2Proof.Machine.execEorIndirectY b s
  | .eorZeroPageX b => Sys2Proof.Machine.execEorZeroPageX b s
  | .eorAbsoluteY l h => Sys2Proof.Machine.execEorAbsoluteY l h s
  | .eorAbsoluteX l h => Sys2Proof.Machine.execEorAbsoluteX l h s
  | .cmpIndirectX b => Sys2Proof.Machine.execCmpIndirectX b s
  | .cmpZeroPage b => Sys2Proof.Machine.execCmpZeroPage b s
  | .cmpImmediate b => Sys2Proof.Machine.execCmpImmediate b s
  | .cmpAbsolute l h => Sys2Proof.Machine.execCmpAbsolute l h s
  | .cmpIndirectY b => Sys2Proof.Machine.execCmpIndirectY b s
  | .cmpZeroPageX b => Sys2Proof.Machine.execCmpZeroPageX b s
  | .cmpAbsoluteY l h => Sys2Proof.Machine.execCmpAbsoluteY l h s
  | .cmpAbsoluteX l h => Sys2Proof.Machine.execCmpAbsoluteX l h s
  | .cpxImmediate b => Sys2Proof.Machine.execCpxImmediate b s
  | .cpxZeroPage b => Sys2Proof.Machine.execCpxZeroPage b s
  | .cpxAbsolute l h => Sys2Proof.Machine.execCpxAbsolute l h s
  | .cpyImmediate b => Sys2Proof.Machine.execCpyImmediate b s
  | .cpyZeroPage b => Sys2Proof.Machine.execCpyZeroPage b s
  | .cpyAbsolute l h => Sys2Proof.Machine.execCpyAbsolute l h s
  | .bitZeroPage b => Sys2Proof.Machine.execBitZeroPage b s
  | .bitAbsolute l h => Sys2Proof.Machine.execBitAbsolute l h s
  -- Shift, rotate, increment and decrement of memory (43_read_modify_write.md)
  | .aslZeroPage b => Sys2Proof.Machine.execAslZeroPage b s
  | .aslAccumulator => Sys2Proof.Machine.execAslAccumulator s
  | .aslAbsolute l h => Sys2Proof.Machine.execAslAbsolute l h s
  | .aslZeroPageX b => Sys2Proof.Machine.execAslZeroPageX b s
  | .aslAbsoluteX l h => Sys2Proof.Machine.execAslAbsoluteX l h s
  | .lsrZeroPage b => Sys2Proof.Machine.execLsrZeroPage b s
  | .lsrAccumulator => Sys2Proof.Machine.execLsrAccumulator s
  | .lsrAbsolute l h => Sys2Proof.Machine.execLsrAbsolute l h s
  | .lsrZeroPageX b => Sys2Proof.Machine.execLsrZeroPageX b s
  | .lsrAbsoluteX l h => Sys2Proof.Machine.execLsrAbsoluteX l h s
  | .rolZeroPage b => Sys2Proof.Machine.execRolZeroPage b s
  | .rolAccumulator => Sys2Proof.Machine.execRolAccumulator s
  | .rolAbsolute l h => Sys2Proof.Machine.execRolAbsolute l h s
  | .rolZeroPageX b => Sys2Proof.Machine.execRolZeroPageX b s
  | .rolAbsoluteX l h => Sys2Proof.Machine.execRolAbsoluteX l h s
  | .rorZeroPage b => Sys2Proof.Machine.execRorZeroPage b s
  | .rorAccumulator => Sys2Proof.Machine.execRorAccumulator s
  | .rorAbsolute l h => Sys2Proof.Machine.execRorAbsolute l h s
  | .rorZeroPageX b => Sys2Proof.Machine.execRorZeroPageX b s
  | .rorAbsoluteX l h => Sys2Proof.Machine.execRorAbsoluteX l h s
  | .incZeroPage b => Sys2Proof.Machine.execIncZeroPage b s
  | .incAbsolute l h => Sys2Proof.Machine.execIncAbsolute l h s
  | .incZeroPageX b => Sys2Proof.Machine.execIncZeroPageX b s
  | .incAbsoluteX l h => Sys2Proof.Machine.execIncAbsoluteX l h s
  | .decZeroPage b => Sys2Proof.Machine.execDecZeroPage b s
  | .decAbsolute l h => Sys2Proof.Machine.execDecAbsolute l h s
  | .decZeroPageX b => Sys2Proof.Machine.execDecZeroPageX b s
  | .decAbsoluteX l h => Sys2Proof.Machine.execDecAbsoluteX l h s
  -- Register transfer, increment and decrement instructions (44_register.md)
  | .tax => Sys2Proof.Machine.execTax s
  | .tay => Sys2Proof.Machine.execTay s
  | .tsx => Sys2Proof.Machine.execTsx s
  | .txa => Sys2Proof.Machine.execTxa s
  | .txs => Sys2Proof.Machine.execTxs s
  | .tya => Sys2Proof.Machine.execTya s
  | .inx => Sys2Proof.Machine.execInx s
  | .iny => Sys2Proof.Machine.execIny s
  | .dex => Sys2Proof.Machine.execDex s
  | .dey => Sys2Proof.Machine.execDey s
  -- Stack push and pull instructions (45_stack.md)
  | .pha => Sys2Proof.Machine.execPha s
  | .php => Sys2Proof.Machine.execPhp s
  | .pla => Sys2Proof.Machine.execPla s
  | .plp => Sys2Proof.Machine.execPlp s
  -- Control transfer: jumps, subroutine, return, break and branches (46_control.md)
  | .jmpAbsolute l h => Sys2Proof.Machine.execJmpAbsolute l h s
  | .jmpIndirect l h => Sys2Proof.Machine.execJmpIndirect l h s
  | .jsr l h => Sys2Proof.Machine.execJsr l h s
  | .rts => Sys2Proof.Machine.execRts s
  | .rti => Sys2Proof.Machine.execRti s
  | .brk => Sys2Proof.Machine.execBrk s
  | .bpl b => Sys2Proof.Machine.execBpl b s
  | .bmi b => Sys2Proof.Machine.execBmi b s
  | .bvc b => Sys2Proof.Machine.execBvc b s
  | .bvs b => Sys2Proof.Machine.execBvs b s
  | .bcc b => Sys2Proof.Machine.execBcc b s
  | .bcs b => Sys2Proof.Machine.execBcs b s
  | .bne b => Sys2Proof.Machine.execBne b s
  | .beq b => Sys2Proof.Machine.execBeq b s
  -- Flag set and clear instructions, and NOP (47_flag_and_nop.md)
  | .clc => Sys2Proof.Machine.execClc s
  | .sec => Sys2Proof.Machine.execSec s
  | .cli => Sys2Proof.Machine.execCli s
  | .sei => Sys2Proof.Machine.execSei s
  | .clv => Sys2Proof.Machine.execClv s
  | .cld => Sys2Proof.Machine.execCld s
  | .sed => Sys2Proof.Machine.execSed s
  | .nop => Sys2Proof.Machine.execNop s
  -- Undefined opcode values (48_undefined.md)
  | .undefined02 => Sys2Proof.Machine.execUndefined02 s
  | .undefined03 => Sys2Proof.Machine.execUndefined03 s
  | .undefined04 => Sys2Proof.Machine.execUndefined04 s
  | .undefined07 => Sys2Proof.Machine.execUndefined07 s
  | .undefined0B => Sys2Proof.Machine.execUndefined0B s
  | .undefined0C => Sys2Proof.Machine.execUndefined0C s
  | .undefined0F => Sys2Proof.Machine.execUndefined0F s
  | .undefined12 => Sys2Proof.Machine.execUndefined12 s
  | .undefined13 => Sys2Proof.Machine.execUndefined13 s
  | .undefined14 => Sys2Proof.Machine.execUndefined14 s
  | .undefined17 => Sys2Proof.Machine.execUndefined17 s
  | .undefined1A => Sys2Proof.Machine.execUndefined1A s
  | .undefined1B => Sys2Proof.Machine.execUndefined1B s
  | .undefined1C => Sys2Proof.Machine.execUndefined1C s
  | .undefined1F => Sys2Proof.Machine.execUndefined1F s
  | .undefined22 => Sys2Proof.Machine.execUndefined22 s
  | .undefined23 => Sys2Proof.Machine.execUndefined23 s
  | .undefined27 => Sys2Proof.Machine.execUndefined27 s
  | .undefined2B => Sys2Proof.Machine.execUndefined2B s
  | .undefined2F => Sys2Proof.Machine.execUndefined2F s
  | .undefined32 => Sys2Proof.Machine.execUndefined32 s
  | .undefined33 => Sys2Proof.Machine.execUndefined33 s
  | .undefined34 => Sys2Proof.Machine.execUndefined34 s
  | .undefined37 => Sys2Proof.Machine.execUndefined37 s
  | .undefined3A => Sys2Proof.Machine.execUndefined3A s
  | .undefined3B => Sys2Proof.Machine.execUndefined3B s
  | .undefined3C => Sys2Proof.Machine.execUndefined3C s
  | .undefined3F => Sys2Proof.Machine.execUndefined3F s
  | .undefined42 => Sys2Proof.Machine.execUndefined42 s
  | .undefined43 => Sys2Proof.Machine.execUndefined43 s
  | .undefined44 => Sys2Proof.Machine.execUndefined44 s
  | .undefined47 => Sys2Proof.Machine.execUndefined47 s
  | .undefined4B => Sys2Proof.Machine.execUndefined4B s
  | .undefined4F => Sys2Proof.Machine.execUndefined4F s
  | .undefined52 => Sys2Proof.Machine.execUndefined52 s
  | .undefined53 => Sys2Proof.Machine.execUndefined53 s
  | .undefined54 => Sys2Proof.Machine.execUndefined54 s
  | .undefined57 => Sys2Proof.Machine.execUndefined57 s
  | .undefined5A => Sys2Proof.Machine.execUndefined5A s
  | .undefined5B => Sys2Proof.Machine.execUndefined5B s
  | .undefined5C => Sys2Proof.Machine.execUndefined5C s
  | .undefined5F => Sys2Proof.Machine.execUndefined5F s
  | .undefined62 => Sys2Proof.Machine.execUndefined62 s
  | .undefined63 => Sys2Proof.Machine.execUndefined63 s
  | .undefined64 => Sys2Proof.Machine.execUndefined64 s
  | .undefined67 => Sys2Proof.Machine.execUndefined67 s
  | .undefined6B => Sys2Proof.Machine.execUndefined6B s
  | .undefined6F => Sys2Proof.Machine.execUndefined6F s
  | .undefined72 => Sys2Proof.Machine.execUndefined72 s
  | .undefined73 => Sys2Proof.Machine.execUndefined73 s
  | .undefined74 => Sys2Proof.Machine.execUndefined74 s
  | .undefined77 => Sys2Proof.Machine.execUndefined77 s
  | .undefined7A => Sys2Proof.Machine.execUndefined7A s
  | .undefined7B => Sys2Proof.Machine.execUndefined7B s
  | .undefined7C => Sys2Proof.Machine.execUndefined7C s
  | .undefined7F => Sys2Proof.Machine.execUndefined7F s
  | .undefined80 => Sys2Proof.Machine.execUndefined80 s
  | .undefined82 => Sys2Proof.Machine.execUndefined82 s
  | .undefined83 => Sys2Proof.Machine.execUndefined83 s
  | .undefined87 => Sys2Proof.Machine.execUndefined87 s
  | .undefined89 => Sys2Proof.Machine.execUndefined89 s
  | .undefined8B => Sys2Proof.Machine.execUndefined8B s
  | .undefined8F => Sys2Proof.Machine.execUndefined8F s
  | .undefined92 => Sys2Proof.Machine.execUndefined92 s
  | .undefined93 => Sys2Proof.Machine.execUndefined93 s
  | .undefined97 => Sys2Proof.Machine.execUndefined97 s
  | .undefined9B => Sys2Proof.Machine.execUndefined9B s
  | .undefined9C => Sys2Proof.Machine.execUndefined9C s
  | .undefined9E => Sys2Proof.Machine.execUndefined9E s
  | .undefined9F => Sys2Proof.Machine.execUndefined9F s
  | .undefinedA3 => Sys2Proof.Machine.execUndefinedA3 s
  | .undefinedA7 => Sys2Proof.Machine.execUndefinedA7 s
  | .undefinedAB => Sys2Proof.Machine.execUndefinedAB s
  | .undefinedAF => Sys2Proof.Machine.execUndefinedAF s
  | .undefinedB2 => Sys2Proof.Machine.execUndefinedB2 s
  | .undefinedB3 => Sys2Proof.Machine.execUndefinedB3 s
  | .undefinedB7 => Sys2Proof.Machine.execUndefinedB7 s
  | .undefinedBB => Sys2Proof.Machine.execUndefinedBB s
  | .undefinedBF => Sys2Proof.Machine.execUndefinedBF s
  | .undefinedC2 => Sys2Proof.Machine.execUndefinedC2 s
  | .undefinedC3 => Sys2Proof.Machine.execUndefinedC3 s
  | .undefinedC7 => Sys2Proof.Machine.execUndefinedC7 s
  | .undefinedCB => Sys2Proof.Machine.execUndefinedCB s
  | .undefinedCF => Sys2Proof.Machine.execUndefinedCF s
  | .undefinedD2 => Sys2Proof.Machine.execUndefinedD2 s
  | .undefinedD3 => Sys2Proof.Machine.execUndefinedD3 s
  | .undefinedD4 => Sys2Proof.Machine.execUndefinedD4 s
  | .undefinedD7 => Sys2Proof.Machine.execUndefinedD7 s
  | .undefinedDA => Sys2Proof.Machine.execUndefinedDA s
  | .undefinedDB => Sys2Proof.Machine.execUndefinedDB s
  | .undefinedDC => Sys2Proof.Machine.execUndefinedDC s
  | .undefinedDF => Sys2Proof.Machine.execUndefinedDF s
  | .undefinedE2 => Sys2Proof.Machine.execUndefinedE2 s
  | .undefinedE3 => Sys2Proof.Machine.execUndefinedE3 s
  | .undefinedE7 => Sys2Proof.Machine.execUndefinedE7 s
  | .undefinedEB => Sys2Proof.Machine.execUndefinedEB s
  | .undefinedEF => Sys2Proof.Machine.execUndefinedEF s
  | .undefinedF2 => Sys2Proof.Machine.execUndefinedF2 s
  | .undefinedF3 => Sys2Proof.Machine.execUndefinedF3 s
  | .undefinedF4 => Sys2Proof.Machine.execUndefinedF4 s
  | .undefinedF7 => Sys2Proof.Machine.execUndefinedF7 s
  | .undefinedFA => Sys2Proof.Machine.execUndefinedFA s
  | .undefinedFB => Sys2Proof.Machine.execUndefinedFB s
  | .undefinedFC => Sys2Proof.Machine.execUndefinedFC s
  | .undefinedFF => Sys2Proof.Machine.execUndefinedFF s

end Sys2Proof.Machine
end

