-- ==== Sys2Proof/Decode.lean ====
section
/-! DEFINITION. The decoder from bytes to an instruction and the encoder back. The opcode occupies the whole first byte and
is the key (30_encoding.md R38, R39); the operand bytes follow it, low byte first (R38). Decoding is total: it refuses, by
name, only a byte sequence that ends before the instruction does. -/

namespace Sys2Proof

/-- Why bytes do not make an instruction. -/
inductive Reject where
  /-- No byte at all. -/
  | noOpcode
  /-- The opcode calls for `needed` operand bytes and only `present` follow it (40_decode_and_format.md R52). -/
  | operandsMissing (op : Byte) (needed present : Nat)
deriving DecidableEq, Repr

/-- What each opcode value makes of the operand bytes after it, laid out as 30_encoding.md R42: row = high hex digit of the
opcode, column = low hex digit. -/
def decodeRows : Vector (Vector (Byte → Byte → Instr) 16) 16 := #v[
  -- 0x
  #v[fun _ _ => .brk, fun b _ => .oraIndirectX b, fun _ _ => .undefined02, fun _ _ => .undefined03,
     fun _ _ => .undefined04, fun b _ => .oraZeroPage b, fun b _ => .aslZeroPage b, fun _ _ => .undefined07,
     fun _ _ => .php, fun b _ => .oraImmediate b, fun _ _ => .aslAccumulator, fun _ _ => .undefined0B,
     fun _ _ => .undefined0C, fun l h => .oraAbsolute l h, fun l h => .aslAbsolute l h, fun _ _ => .undefined0F],
  -- 1x
  #v[fun b _ => .bpl b, fun b _ => .oraIndirectY b, fun _ _ => .undefined12, fun _ _ => .undefined13,
     fun _ _ => .undefined14, fun b _ => .oraZeroPageX b, fun b _ => .aslZeroPageX b, fun _ _ => .undefined17,
     fun _ _ => .clc, fun l h => .oraAbsoluteY l h, fun _ _ => .undefined1A, fun _ _ => .undefined1B,
     fun _ _ => .undefined1C, fun l h => .oraAbsoluteX l h, fun l h => .aslAbsoluteX l h, fun _ _ => .undefined1F],
  -- 2x
  #v[fun l h => .jsr l h, fun b _ => .andIndirectX b, fun _ _ => .undefined22, fun _ _ => .undefined23,
     fun b _ => .bitZeroPage b, fun b _ => .andZeroPage b, fun b _ => .rolZeroPage b, fun _ _ => .undefined27,
     fun _ _ => .plp, fun b _ => .andImmediate b, fun _ _ => .rolAccumulator, fun _ _ => .undefined2B,
     fun l h => .bitAbsolute l h, fun l h => .andAbsolute l h, fun l h => .rolAbsolute l h, fun _ _ => .undefined2F],
  -- 3x
  #v[fun b _ => .bmi b, fun b _ => .andIndirectY b, fun _ _ => .undefined32, fun _ _ => .undefined33,
     fun _ _ => .undefined34, fun b _ => .andZeroPageX b, fun b _ => .rolZeroPageX b, fun _ _ => .undefined37,
     fun _ _ => .sec, fun l h => .andAbsoluteY l h, fun _ _ => .undefined3A, fun _ _ => .undefined3B,
     fun _ _ => .undefined3C, fun l h => .andAbsoluteX l h, fun l h => .rolAbsoluteX l h, fun _ _ => .undefined3F],
  -- 4x
  #v[fun _ _ => .rti, fun b _ => .eorIndirectX b, fun _ _ => .undefined42, fun _ _ => .undefined43,
     fun _ _ => .undefined44, fun b _ => .eorZeroPage b, fun b _ => .lsrZeroPage b, fun _ _ => .undefined47,
     fun _ _ => .pha, fun b _ => .eorImmediate b, fun _ _ => .lsrAccumulator, fun _ _ => .undefined4B,
     fun l h => .jmpAbsolute l h, fun l h => .eorAbsolute l h, fun l h => .lsrAbsolute l h, fun _ _ => .undefined4F],
  -- 5x
  #v[fun b _ => .bvc b, fun b _ => .eorIndirectY b, fun _ _ => .undefined52, fun _ _ => .undefined53,
     fun _ _ => .undefined54, fun b _ => .eorZeroPageX b, fun b _ => .lsrZeroPageX b, fun _ _ => .undefined57,
     fun _ _ => .cli, fun l h => .eorAbsoluteY l h, fun _ _ => .undefined5A, fun _ _ => .undefined5B,
     fun _ _ => .undefined5C, fun l h => .eorAbsoluteX l h, fun l h => .lsrAbsoluteX l h, fun _ _ => .undefined5F],
  -- 6x
  #v[fun _ _ => .rts, fun b _ => .adcIndirectX b, fun _ _ => .undefined62, fun _ _ => .undefined63,
     fun _ _ => .undefined64, fun b _ => .adcZeroPage b, fun b _ => .rorZeroPage b, fun _ _ => .undefined67,
     fun _ _ => .pla, fun b _ => .adcImmediate b, fun _ _ => .rorAccumulator, fun _ _ => .undefined6B,
     fun l h => .jmpIndirect l h, fun l h => .adcAbsolute l h, fun l h => .rorAbsolute l h, fun _ _ => .undefined6F],
  -- 7x
  #v[fun b _ => .bvs b, fun b _ => .adcIndirectY b, fun _ _ => .undefined72, fun _ _ => .undefined73,
     fun _ _ => .undefined74, fun b _ => .adcZeroPageX b, fun b _ => .rorZeroPageX b, fun _ _ => .undefined77,
     fun _ _ => .sei, fun l h => .adcAbsoluteY l h, fun _ _ => .undefined7A, fun _ _ => .undefined7B,
     fun _ _ => .undefined7C, fun l h => .adcAbsoluteX l h, fun l h => .rorAbsoluteX l h, fun _ _ => .undefined7F],
  -- 8x
  #v[fun _ _ => .undefined80, fun b _ => .staIndirectX b, fun _ _ => .undefined82, fun _ _ => .undefined83,
     fun b _ => .styZeroPage b, fun b _ => .staZeroPage b, fun b _ => .stxZeroPage b, fun _ _ => .undefined87,
     fun _ _ => .dey, fun _ _ => .undefined89, fun _ _ => .txa, fun _ _ => .undefined8B,
     fun l h => .styAbsolute l h, fun l h => .staAbsolute l h, fun l h => .stxAbsolute l h, fun _ _ => .undefined8F],
  -- 9x
  #v[fun b _ => .bcc b, fun b _ => .staIndirectY b, fun _ _ => .undefined92, fun _ _ => .undefined93,
     fun b _ => .styZeroPageX b, fun b _ => .staZeroPageX b, fun b _ => .stxZeroPageY b, fun _ _ => .undefined97,
     fun _ _ => .tya, fun l h => .staAbsoluteY l h, fun _ _ => .txs, fun _ _ => .undefined9B,
     fun _ _ => .undefined9C, fun l h => .staAbsoluteX l h, fun _ _ => .undefined9E, fun _ _ => .undefined9F],
  -- Ax
  #v[fun b _ => .ldyImmediate b, fun b _ => .ldaIndirectX b, fun b _ => .ldxImmediate b, fun _ _ => .undefinedA3,
     fun b _ => .ldyZeroPage b, fun b _ => .ldaZeroPage b, fun b _ => .ldxZeroPage b, fun _ _ => .undefinedA7,
     fun _ _ => .tay, fun b _ => .ldaImmediate b, fun _ _ => .tax, fun _ _ => .undefinedAB,
     fun l h => .ldyAbsolute l h, fun l h => .ldaAbsolute l h, fun l h => .ldxAbsolute l h, fun _ _ => .undefinedAF],
  -- Bx
  #v[fun b _ => .bcs b, fun b _ => .ldaIndirectY b, fun _ _ => .undefinedB2, fun _ _ => .undefinedB3,
     fun b _ => .ldyZeroPageX b, fun b _ => .ldaZeroPageX b, fun b _ => .ldxZeroPageY b, fun _ _ => .undefinedB7,
     fun _ _ => .clv, fun l h => .ldaAbsoluteY l h, fun _ _ => .tsx, fun _ _ => .undefinedBB,
     fun l h => .ldyAbsoluteX l h, fun l h => .ldaAbsoluteX l h, fun l h => .ldxAbsoluteY l h, fun _ _ => .undefinedBF],
  -- Cx
  #v[fun b _ => .cpyImmediate b, fun b _ => .cmpIndirectX b, fun _ _ => .undefinedC2, fun _ _ => .undefinedC3,
     fun b _ => .cpyZeroPage b, fun b _ => .cmpZeroPage b, fun b _ => .decZeroPage b, fun _ _ => .undefinedC7,
     fun _ _ => .iny, fun b _ => .cmpImmediate b, fun _ _ => .dex, fun _ _ => .undefinedCB,
     fun l h => .cpyAbsolute l h, fun l h => .cmpAbsolute l h, fun l h => .decAbsolute l h, fun _ _ => .undefinedCF],
  -- Dx
  #v[fun b _ => .bne b, fun b _ => .cmpIndirectY b, fun _ _ => .undefinedD2, fun _ _ => .undefinedD3,
     fun _ _ => .undefinedD4, fun b _ => .cmpZeroPageX b, fun b _ => .decZeroPageX b, fun _ _ => .undefinedD7,
     fun _ _ => .cld, fun l h => .cmpAbsoluteY l h, fun _ _ => .undefinedDA, fun _ _ => .undefinedDB,
     fun _ _ => .undefinedDC, fun l h => .cmpAbsoluteX l h, fun l h => .decAbsoluteX l h, fun _ _ => .undefinedDF],
  -- Ex
  #v[fun b _ => .cpxImmediate b, fun b _ => .sbcIndirectX b, fun _ _ => .undefinedE2, fun _ _ => .undefinedE3,
     fun b _ => .cpxZeroPage b, fun b _ => .sbcZeroPage b, fun b _ => .incZeroPage b, fun _ _ => .undefinedE7,
     fun _ _ => .inx, fun b _ => .sbcImmediate b, fun _ _ => .nop, fun _ _ => .undefinedEB,
     fun l h => .cpxAbsolute l h, fun l h => .sbcAbsolute l h, fun l h => .incAbsolute l h, fun _ _ => .undefinedEF],
  -- Fx
  #v[fun b _ => .beq b, fun b _ => .sbcIndirectY b, fun _ _ => .undefinedF2, fun _ _ => .undefinedF3,
     fun _ _ => .undefinedF4, fun b _ => .sbcZeroPageX b, fun b _ => .incZeroPageX b, fun _ _ => .undefinedF7,
     fun _ _ => .sed, fun l h => .sbcAbsoluteY l h, fun _ _ => .undefinedFA, fun _ _ => .undefinedFB,
     fun _ _ => .undefinedFC, fun l h => .sbcAbsoluteX l h, fun l h => .incAbsoluteX l h, fun _ _ => .undefinedFF]]

/-- The instruction of an opcode byte and the two bytes after it, of which it takes those its mode calls for. -/
def instrOf (op b0 b1 : Byte) : Instr :=
  ((decodeRows[op.toNat / 16]'(by have := op.isLt; omega))[op.toNat % 16]'(by omega)) b0 b1

/-- The decoder: the instruction at the front of a byte sequence, and the rest of the sequence. -/
def decode : List Byte → Except Reject (Instr × List Byte)
  | [] => .error .noOpcode
  | op :: rest =>
    let n := Machine.neededBy op
    if rest.length < n then .error (.operandsMissing op n rest.length)
    else .ok (instrOf op (rest.getD 0 0) (rest.getD 1 0), rest.drop n)

/-- The encoder: the bytes of an instruction in buffer order, from the encoding tables of the section files 41 to 48. -/
def encode : Instr → List Byte
  | .ldaIndirectX b => [0xA1#8, b]
  | .ldaZeroPage b => [0xA5#8, b]
  | .ldaImmediate b => [0xA9#8, b]
  | .ldaAbsolute l h => [0xAD#8, l, h]
  | .ldaIndirectY b => [0xB1#8, b]
  | .ldaZeroPageX b => [0xB5#8, b]
  | .ldaAbsoluteY l h => [0xB9#8, l, h]
  | .ldaAbsoluteX l h => [0xBD#8, l, h]
  | .ldxImmediate b => [0xA2#8, b]
  | .ldxZeroPage b => [0xA6#8, b]
  | .ldxAbsolute l h => [0xAE#8, l, h]
  | .ldxZeroPageY b => [0xB6#8, b]
  | .ldxAbsoluteY l h => [0xBE#8, l, h]
  | .ldyImmediate b => [0xA0#8, b]
  | .ldyZeroPage b => [0xA4#8, b]
  | .ldyAbsolute l h => [0xAC#8, l, h]
  | .ldyZeroPageX b => [0xB4#8, b]
  | .ldyAbsoluteX l h => [0xBC#8, l, h]
  | .staIndirectX b => [0x81#8, b]
  | .staZeroPage b => [0x85#8, b]
  | .staAbsolute l h => [0x8D#8, l, h]
  | .staIndirectY b => [0x91#8, b]
  | .staZeroPageX b => [0x95#8, b]
  | .staAbsoluteY l h => [0x99#8, l, h]
  | .staAbsoluteX l h => [0x9D#8, l, h]
  | .stxZeroPage b => [0x86#8, b]
  | .stxAbsolute l h => [0x8E#8, l, h]
  | .stxZeroPageY b => [0x96#8, b]
  | .styZeroPage b => [0x84#8, b]
  | .styAbsolute l h => [0x8C#8, l, h]
  | .styZeroPageX b => [0x94#8, b]
  | .adcIndirectX b => [0x61#8, b]
  | .adcZeroPage b => [0x65#8, b]
  | .adcImmediate b => [0x69#8, b]
  | .adcAbsolute l h => [0x6D#8, l, h]
  | .adcIndirectY b => [0x71#8, b]
  | .adcZeroPageX b => [0x75#8, b]
  | .adcAbsoluteY l h => [0x79#8, l, h]
  | .adcAbsoluteX l h => [0x7D#8, l, h]
  | .sbcIndirectX b => [0xE1#8, b]
  | .sbcZeroPage b => [0xE5#8, b]
  | .sbcImmediate b => [0xE9#8, b]
  | .sbcAbsolute l h => [0xED#8, l, h]
  | .sbcIndirectY b => [0xF1#8, b]
  | .sbcZeroPageX b => [0xF5#8, b]
  | .sbcAbsoluteY l h => [0xF9#8, l, h]
  | .sbcAbsoluteX l h => [0xFD#8, l, h]
  | .andIndirectX b => [0x21#8, b]
  | .andZeroPage b => [0x25#8, b]
  | .andImmediate b => [0x29#8, b]
  | .andAbsolute l h => [0x2D#8, l, h]
  | .andIndirectY b => [0x31#8, b]
  | .andZeroPageX b => [0x35#8, b]
  | .andAbsoluteY l h => [0x39#8, l, h]
  | .andAbsoluteX l h => [0x3D#8, l, h]
  | .oraIndirectX b => [0x01#8, b]
  | .oraZeroPage b => [0x05#8, b]
  | .oraImmediate b => [0x09#8, b]
  | .oraAbsolute l h => [0x0D#8, l, h]
  | .oraIndirectY b => [0x11#8, b]
  | .oraZeroPageX b => [0x15#8, b]
  | .oraAbsoluteY l h => [0x19#8, l, h]
  | .oraAbsoluteX l h => [0x1D#8, l, h]
  | .eorIndirectX b => [0x41#8, b]
  | .eorZeroPage b => [0x45#8, b]
  | .eorImmediate b => [0x49#8, b]
  | .eorAbsolute l h => [0x4D#8, l, h]
  | .eorIndirectY b => [0x51#8, b]
  | .eorZeroPageX b => [0x55#8, b]
  | .eorAbsoluteY l h => [0x59#8, l, h]
  | .eorAbsoluteX l h => [0x5D#8, l, h]
  | .cmpIndirectX b => [0xC1#8, b]
  | .cmpZeroPage b => [0xC5#8, b]
  | .cmpImmediate b => [0xC9#8, b]
  | .cmpAbsolute l h => [0xCD#8, l, h]
  | .cmpIndirectY b => [0xD1#8, b]
  | .cmpZeroPageX b => [0xD5#8, b]
  | .cmpAbsoluteY l h => [0xD9#8, l, h]
  | .cmpAbsoluteX l h => [0xDD#8, l, h]
  | .cpxImmediate b => [0xE0#8, b]
  | .cpxZeroPage b => [0xE4#8, b]
  | .cpxAbsolute l h => [0xEC#8, l, h]
  | .cpyImmediate b => [0xC0#8, b]
  | .cpyZeroPage b => [0xC4#8, b]
  | .cpyAbsolute l h => [0xCC#8, l, h]
  | .bitZeroPage b => [0x24#8, b]
  | .bitAbsolute l h => [0x2C#8, l, h]
  | .aslZeroPage b => [0x06#8, b]
  | .aslAccumulator => [0x0A#8]
  | .aslAbsolute l h => [0x0E#8, l, h]
  | .aslZeroPageX b => [0x16#8, b]
  | .aslAbsoluteX l h => [0x1E#8, l, h]
  | .lsrZeroPage b => [0x46#8, b]
  | .lsrAccumulator => [0x4A#8]
  | .lsrAbsolute l h => [0x4E#8, l, h]
  | .lsrZeroPageX b => [0x56#8, b]
  | .lsrAbsoluteX l h => [0x5E#8, l, h]
  | .rolZeroPage b => [0x26#8, b]
  | .rolAccumulator => [0x2A#8]
  | .rolAbsolute l h => [0x2E#8, l, h]
  | .rolZeroPageX b => [0x36#8, b]
  | .rolAbsoluteX l h => [0x3E#8, l, h]
  | .rorZeroPage b => [0x66#8, b]
  | .rorAccumulator => [0x6A#8]
  | .rorAbsolute l h => [0x6E#8, l, h]
  | .rorZeroPageX b => [0x76#8, b]
  | .rorAbsoluteX l h => [0x7E#8, l, h]
  | .incZeroPage b => [0xE6#8, b]
  | .incAbsolute l h => [0xEE#8, l, h]
  | .incZeroPageX b => [0xF6#8, b]
  | .incAbsoluteX l h => [0xFE#8, l, h]
  | .decZeroPage b => [0xC6#8, b]
  | .decAbsolute l h => [0xCE#8, l, h]
  | .decZeroPageX b => [0xD6#8, b]
  | .decAbsoluteX l h => [0xDE#8, l, h]
  | .tax => [0xAA#8]
  | .tay => [0xA8#8]
  | .tsx => [0xBA#8]
  | .txa => [0x8A#8]
  | .txs => [0x9A#8]
  | .tya => [0x98#8]
  | .inx => [0xE8#8]
  | .iny => [0xC8#8]
  | .dex => [0xCA#8]
  | .dey => [0x88#8]
  | .pha => [0x48#8]
  | .php => [0x08#8]
  | .pla => [0x68#8]
  | .plp => [0x28#8]
  | .jmpAbsolute l h => [0x4C#8, l, h]
  | .jmpIndirect l h => [0x6C#8, l, h]
  | .jsr l h => [0x20#8, l, h]
  | .rts => [0x60#8]
  | .rti => [0x40#8]
  | .brk => [0x00#8]
  | .bpl b => [0x10#8, b]
  | .bmi b => [0x30#8, b]
  | .bvc b => [0x50#8, b]
  | .bvs b => [0x70#8, b]
  | .bcc b => [0x90#8, b]
  | .bcs b => [0xB0#8, b]
  | .bne b => [0xD0#8, b]
  | .beq b => [0xF0#8, b]
  | .clc => [0x18#8]
  | .sec => [0x38#8]
  | .cli => [0x58#8]
  | .sei => [0x78#8]
  | .clv => [0xB8#8]
  | .cld => [0xD8#8]
  | .sed => [0xF8#8]
  | .nop => [0xEA#8]
  | .undefined02 => [0x02#8]
  | .undefined03 => [0x03#8]
  | .undefined04 => [0x04#8]
  | .undefined07 => [0x07#8]
  | .undefined0B => [0x0B#8]
  | .undefined0C => [0x0C#8]
  | .undefined0F => [0x0F#8]
  | .undefined12 => [0x12#8]
  | .undefined13 => [0x13#8]
  | .undefined14 => [0x14#8]
  | .undefined17 => [0x17#8]
  | .undefined1A => [0x1A#8]
  | .undefined1B => [0x1B#8]
  | .undefined1C => [0x1C#8]
  | .undefined1F => [0x1F#8]
  | .undefined22 => [0x22#8]
  | .undefined23 => [0x23#8]
  | .undefined27 => [0x27#8]
  | .undefined2B => [0x2B#8]
  | .undefined2F => [0x2F#8]
  | .undefined32 => [0x32#8]
  | .undefined33 => [0x33#8]
  | .undefined34 => [0x34#8]
  | .undefined37 => [0x37#8]
  | .undefined3A => [0x3A#8]
  | .undefined3B => [0x3B#8]
  | .undefined3C => [0x3C#8]
  | .undefined3F => [0x3F#8]
  | .undefined42 => [0x42#8]
  | .undefined43 => [0x43#8]
  | .undefined44 => [0x44#8]
  | .undefined47 => [0x47#8]
  | .undefined4B => [0x4B#8]
  | .undefined4F => [0x4F#8]
  | .undefined52 => [0x52#8]
  | .undefined53 => [0x53#8]
  | .undefined54 => [0x54#8]
  | .undefined57 => [0x57#8]
  | .undefined5A => [0x5A#8]
  | .undefined5B => [0x5B#8]
  | .undefined5C => [0x5C#8]
  | .undefined5F => [0x5F#8]
  | .undefined62 => [0x62#8]
  | .undefined63 => [0x63#8]
  | .undefined64 => [0x64#8]
  | .undefined67 => [0x67#8]
  | .undefined6B => [0x6B#8]
  | .undefined6F => [0x6F#8]
  | .undefined72 => [0x72#8]
  | .undefined73 => [0x73#8]
  | .undefined74 => [0x74#8]
  | .undefined77 => [0x77#8]
  | .undefined7A => [0x7A#8]
  | .undefined7B => [0x7B#8]
  | .undefined7C => [0x7C#8]
  | .undefined7F => [0x7F#8]
  | .undefined80 => [0x80#8]
  | .undefined82 => [0x82#8]
  | .undefined83 => [0x83#8]
  | .undefined87 => [0x87#8]
  | .undefined89 => [0x89#8]
  | .undefined8B => [0x8B#8]
  | .undefined8F => [0x8F#8]
  | .undefined92 => [0x92#8]
  | .undefined93 => [0x93#8]
  | .undefined97 => [0x97#8]
  | .undefined9B => [0x9B#8]
  | .undefined9C => [0x9C#8]
  | .undefined9E => [0x9E#8]
  | .undefined9F => [0x9F#8]
  | .undefinedA3 => [0xA3#8]
  | .undefinedA7 => [0xA7#8]
  | .undefinedAB => [0xAB#8]
  | .undefinedAF => [0xAF#8]
  | .undefinedB2 => [0xB2#8]
  | .undefinedB3 => [0xB3#8]
  | .undefinedB7 => [0xB7#8]
  | .undefinedBB => [0xBB#8]
  | .undefinedBF => [0xBF#8]
  | .undefinedC2 => [0xC2#8]
  | .undefinedC3 => [0xC3#8]
  | .undefinedC7 => [0xC7#8]
  | .undefinedCB => [0xCB#8]
  | .undefinedCF => [0xCF#8]
  | .undefinedD2 => [0xD2#8]
  | .undefinedD3 => [0xD3#8]
  | .undefinedD4 => [0xD4#8]
  | .undefinedD7 => [0xD7#8]
  | .undefinedDA => [0xDA#8]
  | .undefinedDB => [0xDB#8]
  | .undefinedDC => [0xDC#8]
  | .undefinedDF => [0xDF#8]
  | .undefinedE2 => [0xE2#8]
  | .undefinedE3 => [0xE3#8]
  | .undefinedE7 => [0xE7#8]
  | .undefinedEB => [0xEB#8]
  | .undefinedEF => [0xEF#8]
  | .undefinedF2 => [0xF2#8]
  | .undefinedF3 => [0xF3#8]
  | .undefinedF4 => [0xF4#8]
  | .undefinedF7 => [0xF7#8]
  | .undefinedFA => [0xFA#8]
  | .undefinedFB => [0xFB#8]
  | .undefinedFC => [0xFC#8]
  | .undefinedFF => [0xFF#8]

/-- The opcode byte of an instruction. -/
def Instr.opcode (i : Instr) : Byte := (encode i).headD 0

/-- A table word as bytes: its `nbits` low bits, first byte in bits 7..0 (spec/opcode_table.json), and zero bytes after
them up to the longest instruction, three bytes (00_scope.md R8). -/
def tableBytes (nbits w : Nat) : List Byte :=
  let v := w % 2 ^ nbits
  [BitVec.ofNat 8 v, BitVec.ofNat 8 (v / 256), BitVec.ofNat 8 (v / 65536)]

/-- The instruction the decoder reads from a table word. -/
def decodeTableWord (nbits w : Nat) : Option Instr :=
  match decode (tableBytes nbits w) with
  | .ok (i, _) => some i
  | .error _ => none

end Sys2Proof
end

