-- ==== Sys2Proof/Config.lean ====
section
/-! DEFINITION. What the spec leaves to the implementation: one OPEN parameter and one free value. Neither has a body,
so no proof can learn a value of it. The opcode table is no parameter: it is fixed (Machine/OpcodeTable.lean). -/

namespace Sys2Proof

/-- `BUF_LEN_MAX`, "a natural number or unbounded" (00_scope.md R8, 92_eei_decisions.md D17; log 8). `none` is unbounded.
No step reads it: the model's index is an unbounded natural number (40_decode_and_format.md R62). -/
opaque Config.bufLenMax : Option Nat

/-- What a window byte at an index at or past the end of the buffer holds: `any value` (93_implementation_defined.md U13;
log 7). A free value: no output depends on it (10_state.md R22). -/
opaque Config.windowByte : Nat → Byte

end Sys2Proof
end

