-- ==== Sys2Proof/Machine/Call.lean ====
section
/-! DEFINITION. The block's one operation, `decode(buf, off)`, written as 40_decode_and_format.md R48 writes it: by lookup
in `TABLE`. The machine's step goes another way (one constructor and one meaning per opcode row); that the two agree is a
claim. -/

namespace Sys2Proof.Machine

/-- `decode(buf, off) -> Result` (R47, R48). -/
def decodeCall (buf : Memory) (off : Nat) : Result :=
  if buf.len = 0 ∨ buf.len ≤ off then .invalid
  else
    let op := buf.byteAt off
    match TABLE op with
    | none => .undefined (undefinedRecord op)
    | some e =>
      let n := opCount e.mode
      let avail := buf.len - off - 1
      let k := min n avail
      let ops := (List.range k).map (fun i => buf.byteAt (off + 1 + i))
      let d : Decoded :=
        { opcode := op, mnemonic := e.mnemonic, mode := e.mode, needed := n, operands := ops, length := 1 + k }
      if k < n then .truncated d else .ok d

end Sys2Proof.Machine
end

