-- ==== Sys2Proof/Machine/Flags.lean ====
section
/-! DEFINITION. Flags: there are none. "Flags written: none. The block has no flags" stands in every instruction's rule
(R65 to R121; 10_state.md R15), and the only status the block produces is the per-call result status (R17). This file
holds that status and the spec's other numeric codes (R14, R19; 92_eei_decisions.md D2, D3; log 11). -/

namespace Sys2Proof.Machine

/-- Status codes: Ok 0, Undefined 1, Truncated 2, Invalid 3 (10_state.md R19). -/
def Status.code : Status → BitVec 2
  | .ok => 0#2
  | .undefined => 1#2
  | .truncated => 2#2
  | .invalid => 3#2

/-- Mode codes 0 to 12 in the order of 10_state.md R14; 13 to 15 are never produced. -/
def modeCode : AddressingMode → BitVec 4
  | .implicit => 0#4
  | .accumulator => 1#4
  | .immediate => 2#4
  | .zeroPage => 3#4
  | .zeroPageX => 4#4
  | .zeroPageY => 5#4
  | .relative => 6#4
  | .absolute => 7#4
  | .absoluteX => 8#4
  | .absoluteY => 9#4
  | .indirect => 10#4
  | .indirectX => 11#4
  | .indirectY => 12#4

end Sys2Proof.Machine
end

