-- ==== Sys2Proof/Machine/Ports.lean ====
section
/-! DEFINITION. The port view of the block (10_state.md R21): a three-byte window and an availability count in, and the
result on ports out. Combinational: at every moment a function of the inputs (70_reset_and_hazards.md R137). -/

namespace Sys2Proof.Machine

/-- The inputs (10_state.md R21). `avail` is how many of the three bytes lie inside the buffer. -/
structure Window where
  w0    : Byte
  w1    : Byte
  w2    : Byte
  avail : Fin 4
deriving DecidableEq, Repr

/-- The outputs (10_state.md R21). -/
structure Ports where
  status : BitVec 2
  opcode : BitVec 8
  mnem   : BitVec 24
  mode   : BitVec 4
  needed : BitVec 2
  nops   : BitVec 2
  op1    : BitVec 8
  op2    : BitVec 8
  length : BitVec 2
  text   : String
deriving DecidableEq, Repr

/-- The window byte at an index: `buf[a]` inside the buffer, any value outside it (R21, R22; log 7). -/
def windowByteAt (buf : Memory) (a : Nat) : Byte :=
  if a < buf.len then buf.byteAt a else Config.windowByte a

/-- The window of a buffer at `off`: `avail` is `min(3, len(buf) - off)` when `off < len(buf)`, else 0 (R21). -/
def windowOf (buf : Memory) (off : Nat) : Window :=
  { w0 := windowByteAt buf off
    w1 := windowByteAt buf (off + 1)
    w2 := windowByteAt buf (off + 2)
    avail := ⟨min 3 (buf.len - off), by omega⟩ }

/-- The result the block forms from a window. -/
def windowResult (w : Window) : Result :=
  if w.avail.val = 0 then .invalid
  else
    match TABLE w.w0 with
    | none => .undefined (undefinedRecord w.w0)
    | some e =>
      let n := opCount e.mode
      let k := min n (w.avail.val - 1)
      let d : Decoded :=
        { opcode := w.w0, mnemonic := e.mnemonic, mode := e.mode, needed := n, operands := [w.w1, w.w2].take k
          length := 1 + k }
      if k < n then .truncated d else .ok d

/-- The ASCII code of a character of a mnemonic (93_implementation_defined.md G7; log 18). -/
def asciiCode (c : Char) : BitVec 8 := BitVec.ofNat 8 c.toNat

/-- `mnem`: three ASCII codes, the first character in bits 23:16 (10_state.md R21, 92_eei_decisions.md D4). -/
def mnemonicBits (m : Mnemonic) : BitVec 24 :=
  match m.text.toList with
  | [a, b, c] => asciiCode a ++ (asciiCode b ++ asciiCode c)
  | _ => 0#24

/-- The ports of a record under a given status. -/
def recordPorts (st : Status) (d : Decoded) (text : String) : Ports :=
  { status := st.code
    opcode := d.opcode
    mnem := mnemonicBits d.mnemonic
    mode := modeCode d.mode
    needed := BitVec.ofNat 2 d.needed
    nops := BitVec.ofNat 2 d.operands.length
    op1 := d.operands.getD 0 0x00#8
    op2 := d.operands.getD 1 0x00#8
    length := BitVec.ofNat 2 d.length
    text := text }

/-- The ports when the result is `Invalid`: zeros that carry no data (10_state.md R21, 92_eei_decisions.md D24). -/
def invalidPorts : Ports :=
  { status := Status.invalid.code, opcode := 0, mnem := 0, mode := 0, needed := 0, nops := 0, op1 := 0, op2 := 0
    length := 0, text := "" }

/-- The ports of a result (10_state.md R21). -/
def portsOf (r : Result) : Ports :=
  match r.record? with
  | some d => recordPorts r.status d r.text
  | none => invalidPorts

/-- The block as a function of `(w0, w1, w2, avail)` (10_state.md R21). -/
def block (w : Window) : Ports := portsOf (windowResult w)

/-- The block's outputs in a state of the machine: those of the window at the host's cursor. -/
def State.ports (s : State) : Ports := block (windowOf s.buf s.off)

end Sys2Proof.Machine
end

