-- ==== Sys2Proof/Machine/Fetch.lean ====
section
/-! DEFINITION. Fetching: the bytes one call reads (20_memory.md R29) and the instruction they make; and how the host lays
an instruction into the buffer at its cursor. -/

namespace Sys2Proof.Machine

/-- How many operand bytes a call reads: those called for that lie inside the buffer (R48: `k = min(n, avail)`). -/
def operandsRead (buf : Memory) (off : Nat) : Nat :=
  min (neededBy (buf.byteAt off)) (buf.len - off - 1)

/-- The indices one call reads, in order, and no others (20_memory.md R29). -/
def callReads (buf : Memory) (off : Nat) : List Nat :=
  if off < buf.len then List.range' off (1 + operandsRead buf off) else []

/-- The `i`-th operand byte of the instruction at `off`: read where the call reads it, and any value where the call does
not (93_implementation_defined.md U13; log 7). -/
def operandByte (buf : Memory) (off i : Nat) : Byte :=
  if i < operandsRead buf off then buf.byteAt (off + 1 + i) else Config.windowByte (off + 1 + i)

/-- The instruction at the cursor; none where no opcode can be read (40_decode_and_format.md R49). A truncated
instruction has free values in place of the missing bytes, which its meaning drops (R52). -/
def fetch (s : State) : Option Instr :=
  if s.off < s.buf.len then
    some (instrOf (s.buf.byteAt s.off) (operandByte s.buf s.off 0) (operandByte s.buf s.off 1))
  else none

/-- The host puts bytes into the buffer from its cursor on (70_reset_and_hazards.md R140, step 2). -/
def State.placeBytes (s : State) (bs : List Byte) : State := { s with buf := s.buf.putAll s.off bs }

end Sys2Proof.Machine
end

