-- ==== Sys2Proof/Machine/Step.lean ====
section
/-! DEFINITION. One step: the host makes one decode call at its cursor and takes the result (40_decode_and_format.md R58,
the loop's body; log 1). -/

namespace Sys2Proof.Machine

/-- The call at the cursor: `Invalid`, which is the host's fault, where there is no opcode to read (R49), and otherwise the
meaning of the instruction there. -/
def step (s : State) : Host.Outcome State Fault Refusal :=
  match fetch s with
  | some i => exec i s
  | none => .fault .invalidInput

/-- `s` with a table word's instruction, followed by zero bytes up to three in all, in the buffer at the cursor (log 4). -/
def State.withFetchWord (s : State) (nbits w : Nat) : State := s.placeBytes (tableBytes nbits w)

end Sys2Proof.Machine
end

