-- ==== Sys2Proof/Machine/Scan.lean ====
section
/-! DEFINITION. The host's loop `scan` (40_decode_and_format.md R58) over the machine's step, and the records a scan
produces. -/

namespace Sys2Proof.Machine

/-- `while off < len(buf)`: at most `fuel` calls. -/
def scanLoop : Nat → State → Host.Outcome State Fault Refusal
  | 0, s => .next s
  | fuel + 1, s =>
    if s.off < s.buf.len then
      match step s with
      | .next t => scanLoop fuel t
      | .fault f => .fault f
      | .refused r => .refused r
    else .next s

/-- The state the loop of R58 begins in: the buffer loaded, `off <- 0`, `lines <- []`. -/
def startScan (bytes : List Byte) : State :=
  { buf := Memory.ofBytes bytes, off := 0, lines := [], result := none }

/-- `scan(buf)` (R58). As many calls as there are bytes are enough, since every call consumes at least one (R60). -/
def scan (bytes : List Byte) : Host.Outcome State Fault Refusal := scanLoop bytes.length (startScan bytes)

/-- The records of at most `fuel` calls from `off` on, each call where the one before it ended. -/
def recordsFrom (buf : Memory) : Nat → Nat → List Result
  | 0, _ => []
  | fuel + 1, off =>
    if off < buf.len then
      decodeCall buf off :: recordsFrom buf fuel (off + (decodeCall buf off).length)
    else []

/-- The records a scan of a byte sequence produces, in stream order. -/
def records (bytes : List Byte) : List Result := recordsFrom (Memory.ofBytes bytes) bytes.length 0

end Sys2Proof.Machine
end

