-- ==== Sys2Proof/WellFormed.lean ====
section
/-! DEFINITION. Well-formedness. An instruction cannot be ill-formed: every opcode value is a constructor of its own and
every operand is a byte, so `Instr.wf` holds of every term (Laws/PerInstr.lean). The data that can be ill-formed are the
result records, whose field invariants 10_state.md R20 gives. -/

namespace Sys2Proof

/-- The layout of 30_encoding.md R38: the opcode byte, then `opCount(mode)` operand bytes for a defined opcode and none for
an undefined one. -/
def Instr.wf (i : Instr) : Bool := (encode i).length == Machine.instructionLength i.opcode

namespace Machine

/-- 10_state.md R20, first item: what holds of the record of an `Ok` result. -/
def Decoded.okWf (d : Decoded) : Bool :=
  match TABLE d.opcode with
  | some e => d.mnemonic == e.mnemonic && d.mode == e.mode && d.needed == opCount e.mode &&
      d.operands.length == d.needed && d.length == 1 + d.needed
  | none => false

/-- 10_state.md R20, second item: what holds of the record of an `Undefined` result. -/
def Decoded.undefinedWf (d : Decoded) : Bool :=
  (TABLE d.opcode).isNone && d.mnemonic == .sentinel && d.mode == .implicit && d.needed == 0 &&
    d.operands == [] && d.length == 1

/-- 10_state.md R20, third item: what holds of the record of a `Truncated` result. -/
def Decoded.truncatedWf (d : Decoded) : Bool :=
  match TABLE d.opcode with
  | some e => d.mnemonic == e.mnemonic && d.mode == e.mode && d.needed == opCount e.mode &&
      decide (d.operands.length < d.needed) && d.length == 1 + d.operands.length
  | none => false

/-- The field invariants of a result (10_state.md R20). -/
def Result.wf : Result → Bool
  | .ok d => d.okWf
  | .undefined d => d.undefinedWf
  | .truncated d => d.truncatedWf
  | .invalid => true

end Machine

end Sys2Proof
end

