-- ==== Sys2Proof/Safety.lean ====
section
/-! DEFINITION. The terms claims use: a valid call (the host's duty, 40_decode_and_format.md R59), the invariant of the
machine, and what it is for an opcode row to run as its rule says. -/

namespace Sys2Proof.Machine

/-- Duty (a) of the host: the call has an opcode to read (40_decode_and_format.md R59). -/
abbrev State.validCall (s : State) : Prop := s.off < s.buf.len

/-- From index `a` on, and as far as it goes, the buffer holds the bytes `bs`. -/
abbrev Memory.holds (m : Memory) (a : Nat) (bs : List Byte) : Prop :=
  m.slice a (min m.len (a + bs.length)) = bs.take (m.len - a)

/-- A line as 40_decode_and_format.md R57 and 10_state.md R21 have it: at most 15 characters of text, then the one line
feed. -/
def emittedLine (l : String) : Bool :=
  decide (l.toList.length ≤ 16) && l.toList.getLast? == some '\n' && l.toList.count '\n' == 1

/-- The invariant. The buffer is in canonical form, the cursor is inside it or at its end (R60), every line is well shaped,
and the latest record meets 10_state.md R20, is no `Invalid`, and is what the last line renders. -/
structure State.Inv (s : State) : Prop where
  buf_wf    : s.buf.wf = true
  off_le    : s.off ≤ s.buf.len
  lines_ok  : ∀ l ∈ s.lines, emittedLine l = true
  no_call   : s.result = none → s.lines = []
  last_call : ∀ r, s.result = some r →
    r.wf = true ∧ r ≠ .invalid ∧ s.lines.getLast? = some (r.text ++ "\n")

/-- A defined opcode row runs as its rule says (R65 to R120). `op` and `ops` are the instruction's bytes, `name` its
mnemonic's letters and `tail` what its line has after them. The bytes encode and decode it; when they stand at the cursor
the step is its meaning; and its meaning, whatever else the state holds, is the `Ok` record when the instruction fits in
the buffer, the `Truncated` record of the operand bytes present when the buffer ends inside it, and the host's fault when
there is no opcode to read. The whole next state is given, so nothing else changes. -/
def RowRuns (i : Instr) (op : Byte) (m : Mnemonic) (mode : AddressingMode) (ops : List Byte) (name tail : String) : Prop :=
  encode i = op :: ops ∧
  (∀ rest, decode (op :: (ops ++ rest)) = .ok (i, rest)) ∧
  ∀ s : State,
    (s.off < s.buf.len → s.buf.holds s.off (op :: ops) → step s = exec i s) ∧
    (s.off + (1 + ops.length) ≤ s.buf.len →
      exec i s = .next
        { buf := s.buf
          off := s.off + (1 + ops.length)
          lines := s.lines ++ [name ++ tail ++ "\n"]
          result := some (.ok
            { opcode := op, mnemonic := m, mode := mode, needed := ops.length, operands := ops
              length := 1 + ops.length }) }) ∧
    (s.off < s.buf.len → s.buf.len < s.off + (1 + ops.length) →
      exec i s = .next
        { buf := s.buf
          off := s.buf.len
          lines := s.lines ++ [name ++ " <truncated>\n"]
          result := some (.truncated
            { opcode := op, mnemonic := m, mode := mode, needed := ops.length
              operands := ops.take (s.buf.len - s.off - 1), length := s.buf.len - s.off }) }) ∧
    (s.buf.len ≤ s.off → exec i s = .fault .invalidInput)

/-- An undefined opcode value runs as 48_undefined.md R121 says: its one byte encodes and decodes it, it is in no entry of
the table, and its meaning is the `Undefined` record, length 1, whatever follows it, or the host's fault. -/
def UndefinedRuns (i : Instr) (op : Byte) : Prop :=
  TABLE op = none ∧
  encode i = [op] ∧
  (∀ rest, decode (op :: rest) = .ok (i, rest)) ∧
  ∀ s : State,
    (s.off < s.buf.len → s.buf.byteAt s.off = op → step s = exec i s) ∧
    (s.off < s.buf.len →
      exec i s = .next
        { buf := s.buf
          off := s.off + 1
          lines := s.lines ++ ["???\n"]
          result := some (.undefined
            { opcode := op, mnemonic := .sentinel, mode := .implicit, needed := 0, operands := [], length := 1 }) }) ∧
    (s.buf.len ≤ s.off → exec i s = .fault .invalidInput)

end Sys2Proof.Machine
end

