-- ==== Sys2Proof/Certificates/Slice0/Obligations.lean ====
section
/-! DEFINITION. The statements for the provers. The machine is the host's loop over the block (log 1): a statement about a
next state says what the host's cursor, lines and buffer are after the call, and `result` is the record it returned. -/

open Sys2Proof Sys2Proof.Machine

/-! The table and the encoding. -/

/-- 00_scope.md R8, 10_state.md R13: 151 defined values, 105 undefined, 56 mnemonics, all 13 modes; the sentinel is no
mnemonic of the table. The count of 56 and the rows behind all the counts are the spec's general knowledge (log 9,
PRESUMED), but for the rows of 30_encoding.md R43. -/
def Obligations.OpcodeTableCounts : Prop :=
  (allOpcodes.filterMap TABLE).length = 151 ∧
  undefinedOpcodes.length = 105 ∧
  ((allOpcodes.filterMap TABLE).map TableEntry.mnemonic).eraseDups.length = 56 ∧
  ((allOpcodes.filterMap TABLE).map TableEntry.mode).eraseDups.length = 13 ∧
  rowsOf .sentinel = []

/-- 30_encoding.md R43: the rows the source itself fixes, and the five values it fixes as undefined. The source names no
mode for 0xEA and 0x8A (R43 takes it from general knowledge, log 9): their modes are in `FlagAndNopRowsRun` and
`RegisterRowsRun`. -/
def Obligations.PinnedRows : Prop :=
  (TABLE 0xEA#8).map TableEntry.mnemonic = some .nop ∧ neededBy 0xEA#8 = 0 ∧
  TABLE 0xA9#8 = some { mnemonic := .lda, mode := .immediate } ∧
  TABLE 0x20#8 = some { mnemonic := .jsr, mode := .absolute } ∧
  TABLE 0xA1#8 = some { mnemonic := .lda, mode := .indirectX } ∧
  TABLE 0x4C#8 = some { mnemonic := .jmp, mode := .absolute } ∧ neededBy 0x4C#8 = 2 ∧
  (TABLE 0x8A#8).map TableEntry.mnemonic = some .txa ∧
  TABLE 0x8C#8 = some { mnemonic := .sty, mode := .absolute } ∧
  TABLE 0x02#8 = none ∧ TABLE 0x03#8 = none ∧ TABLE 0x04#8 = none ∧ TABLE 0x0B#8 = none ∧ TABLE 0x0C#8 = none

/-- 30_encoding.md R44, 48_undefined.md R121: the undefined values are exactly these 105 (the spec's general knowledge but
for five of them; log 9). -/
def Obligations.UndefinedOpcodeList : Prop :=
  undefinedOpcodes = [
    0x02#8, 0x03#8, 0x04#8, 0x07#8, 0x0B#8, 0x0C#8, 0x0F#8, 0x12#8, 0x13#8, 0x14#8, 0x17#8, 0x1A#8,
    0x1B#8, 0x1C#8, 0x1F#8, 0x22#8, 0x23#8, 0x27#8, 0x2B#8, 0x2F#8, 0x32#8, 0x33#8, 0x34#8, 0x37#8,
    0x3A#8, 0x3B#8, 0x3C#8, 0x3F#8, 0x42#8, 0x43#8, 0x44#8, 0x47#8, 0x4B#8, 0x4F#8, 0x52#8, 0x53#8,
    0x54#8, 0x57#8, 0x5A#8, 0x5B#8, 0x5C#8, 0x5F#8, 0x62#8, 0x63#8, 0x64#8, 0x67#8, 0x6B#8, 0x6F#8,
    0x72#8, 0x73#8, 0x74#8, 0x77#8, 0x7A#8, 0x7B#8, 0x7C#8, 0x7F#8, 0x80#8, 0x82#8, 0x83#8, 0x87#8,
    0x89#8, 0x8B#8, 0x8F#8, 0x92#8, 0x93#8, 0x97#8, 0x9B#8, 0x9C#8, 0x9E#8, 0x9F#8, 0xA3#8, 0xA7#8,
    0xAB#8, 0xAF#8, 0xB2#8, 0xB3#8, 0xB7#8, 0xBB#8, 0xBF#8, 0xC2#8, 0xC3#8, 0xC7#8, 0xCB#8, 0xCF#8,
    0xD2#8, 0xD3#8, 0xD4#8, 0xD7#8, 0xDA#8, 0xDB#8, 0xDC#8, 0xDF#8, 0xE2#8, 0xE3#8, 0xE7#8, 0xEB#8,
    0xEF#8, 0xF2#8, 0xF3#8, 0xF4#8, 0xF7#8, 0xFA#8, 0xFB#8, 0xFC#8, 0xFF#8]

/-- 30_encoding.md R37: the operand bytes of each mode, and the length of an instruction of that mode. -/
def Obligations.OperandCountPerMode : Prop :=
  opCount .implicit = 0 ∧ opCount .accumulator = 0 ∧
  opCount .immediate = 1 ∧ opCount .zeroPage = 1 ∧ opCount .zeroPageX = 1 ∧ opCount .zeroPageY = 1 ∧
  opCount .relative = 1 ∧ opCount .indirectX = 1 ∧ opCount .indirectY = 1 ∧
  opCount .absolute = 2 ∧ opCount .absoluteX = 2 ∧ opCount .absoluteY = 2 ∧ opCount .indirect = 2 ∧
  ∀ (op : Byte) (e : TableEntry), TABLE op = some e → instructionLength op = 1 + opCount e.mode

/-- The words of a few rows, written out from the spec's encodings (opcode_table.json), decode to what they stand for. The
rows 0x6C, 0x0A, 0xB6, 0x51, 0xD0 and 0x48 are the spec's general knowledge (log 9, PRESUMED); the others are in
30_encoding.md R43. -/
def Obligations.SpecWordsDecode : Prop :=
  decode [0b10101001#8, 0x42#8] = .ok (.ldaImmediate 0x42, []) ∧
  decode [0b00100000#8, 0x00#8, 0x80#8] = .ok (.jsr 0x00 0x80, []) ∧
  decode [0b01101100#8, 0xFC#8, 0xFF#8] = .ok (.jmpIndirect 0xFC 0xFF, []) ∧
  decode [0b00001010#8, 0xFF#8] = .ok (.aslAccumulator, [0xFF]) ∧
  decode [0b10110110#8, 0x10#8] = .ok (.ldxZeroPageY 0x10, []) ∧
  decode [0b01010001#8, 0x80#8] = .ok (.eorIndirectY 0x80, []) ∧
  decode [0b11010000#8, 0xF7#8] = .ok (.bne 0xF7, []) ∧
  decode [0b01001000#8] = .ok (.pha, []) ∧
  decode [0b10001010#8, 0x8C#8] = .ok (.txa, [0x8C]) ∧
  decode [0b00000010#8, 0xFF#8] = .ok (.undefined02, [0xFF])

/-- 30_encoding.md R38, R42: decoding the bytes of any instruction, with any operand bytes, gives that instruction back and
leaves what follows it. -/
def Obligations.DecodeOfEncode : Prop :=
  ∀ (i : Instr) (rest : List Byte), decode (encode i ++ rest) = .ok (i, rest)

/-- 30_encoding.md R38, R46: each byte sequence has one meaning. What decodes to an instruction is that instruction's bytes
and what follows them. -/
def Obligations.EncodeOfDecode : Prop :=
  ∀ (bs rest : List Byte) (i : Instr), decode bs = .ok (i, rest) → encode i ++ rest = bs

/-- 30_encoding.md R45, 40_decode_and_format.md R52: the decoder refuses a byte sequence only when it ends before the
instruction does, and says by how much. -/
def Obligations.DecodeRefusesOnlyShortInput : Prop :=
  ∀ (bs : List Byte) (r : Reject),
    decode bs = .error r ↔
      (bs = [] ∧ r = .noOpcode) ∨
      ∃ op rest, bs = op :: rest ∧ rest.length < neededBy op ∧ r = .operandsMissing op (neededBy op) rest.length

/-- 30_encoding.md R39: an instruction's length depends on its opcode byte alone, 1 plus the mode's operand bytes for a
defined opcode and 1 for an undefined one, in a byte sequence and in a buffer that holds the whole instruction. -/
def Obligations.LengthFromOpcodeAlone : Prop :=
  (∀ op, instructionLength op = match TABLE op with | some e => 1 + opCount e.mode | none => 1) ∧
  (∀ (op : Byte) (tail rest : List Byte) (i : Instr),
    decode (op :: tail) = .ok (i, rest) → (op :: tail).length = instructionLength op + rest.length) ∧
  (∀ s t : State, s.off + instructionLength (s.buf.byteAt s.off) ≤ s.buf.len → step s = .next t →
    t.off = s.off + instructionLength (s.buf.byteAt s.off))

/-- 30_encoding.md R40, R53, 00_scope.md R10: the text of an `Ok` record determines the record: two well-formed `Ok` records
with the same text are equal. (The spec's rendering decisions D5 to D8 and D13; log 10.) -/
def Obligations.OkTextDeterminesRecord : Prop :=
  ∀ d e : Decoded, (Result.ok d).wf = true → (Result.ok e).wf = true → (Result.ok d).text = (Result.ok e).text → d = e

/-! Spelling and operand text. -/

/-- 20_memory.md R26: a two-byte operand is low byte first in the buffer and high byte first in the text. -/
def Obligations.LowByteFirst : Prop :=
  ∀ l h : Byte,
    (word16 l h).toNat = h.toNat * 256 + l.toNat ∧
    (∀ mode, opCount mode = 2 → operandValue mode [l, h] = .word (word16 l h)) ∧
    hex4 (word16 l h) = hex2 h ++ hex2 l ∧
    (∀ s : State, s.off + 3 ≤ s.buf.len → s.buf.slice s.off (s.off + 3) = [0x20#8, l, h] →
      ∃ t, step s = .next t ∧ t.lines = s.lines ++ ["JSR $" ++ hex2 h ++ hex2 l ++ "\n"]) ∧
    "JSR $" ++ hex2 0x80#8 ++ hex2 0x00#8 = "JSR $8000"

/-- 40_decode_and_format.md R56 (92_eei_decisions.md D7, log 10): two characters of `0123456789ABCDEF`, the high nibble first,
zero-padded; the two characters determine the byte. -/
def Obligations.HexSpelling : Prop :=
  (∀ b : Byte, ∃ x y : Char, (hex2 b).toList = [x, y] ∧ "0123456789ABCDEF".toList[(b.toNat / 16)]? = some x ∧
    "0123456789ABCDEF".toList[(b.toNat % 16)]? = some y) ∧
  hex2 0x05#8 = "05" ∧ hex2 0xAB#8 = "AB" ∧
  (∀ a b : Byte, hex2 a = hex2 b → a = b)

/-- 40_decode_and_format.md R53 (with decisions D5, D6 and D8, log 10): the thirteen operand text shapes. -/
def Obligations.OperandTextShapes : Prop :=
  ∀ b l h : Byte,
    opText .implicit [] = "" ∧ opText .accumulator [] = "A" ∧
    opText .immediate [b] = "#$" ++ hex2 b ∧
    opText .zeroPage [b] = "$" ++ hex2 b ∧
    opText .zeroPageX [b] = "$" ++ hex2 b ++ ", X" ∧
    opText .zeroPageY [b] = "$" ++ hex2 b ++ ", Y" ∧
    opText .relative [b] = "$" ++ hex2 b ∧
    opText .absolute [l, h] = "$" ++ hex2 h ++ hex2 l ∧
    opText .absoluteX [l, h] = "$" ++ hex2 h ++ hex2 l ++ ", X" ∧
    opText .absoluteY [l, h] = "$" ++ hex2 h ++ hex2 l ++ ", Y" ∧
    opText .indirect [l, h] = "($" ++ hex2 h ++ hex2 l ++ ")" ∧
    opText .indirectX [b] = "($" ++ hex2 b ++ ", X)" ∧
    opText .indirectY [b] = "($" ++ hex2 b ++ "), Y"

/-! The instructions, family by family. -/

/-- 41_load_store.md R65 to R70: LDA, LDX, LDY, STA, STX and STY have exactly these rows, and every row runs as its rule
says, with these bytes, this mode and this line. The rows outside 30_encoding.md R43 are the
spec's general knowledge (log 9) and the texts rest on its decisions (log 10); what "runs" means is `RowRuns`. -/
def Obligations.LoadAndStoreRowsRun : Prop :=
  rowsOf .lda = [(0xA1#8, .indirectX), (0xA5#8, .zeroPage), (0xA9#8, .immediate), (0xAD#8, .absolute), (0xB1#8, .indirectY), (0xB5#8, .zeroPageX), (0xB9#8, .absoluteY), (0xBD#8, .absoluteX)] ∧
  rowsOf .ldx = [(0xA2#8, .immediate), (0xA6#8, .zeroPage), (0xAE#8, .absolute), (0xB6#8, .zeroPageY), (0xBE#8, .absoluteY)] ∧
  rowsOf .ldy = [(0xA0#8, .immediate), (0xA4#8, .zeroPage), (0xAC#8, .absolute), (0xB4#8, .zeroPageX), (0xBC#8, .absoluteX)] ∧
  rowsOf .sta = [(0x81#8, .indirectX), (0x85#8, .zeroPage), (0x8D#8, .absolute), (0x91#8, .indirectY), (0x95#8, .zeroPageX), (0x99#8, .absoluteY), (0x9D#8, .absoluteX)] ∧
  rowsOf .stx = [(0x86#8, .zeroPage), (0x8E#8, .absolute), (0x96#8, .zeroPageY)] ∧
  rowsOf .sty = [(0x84#8, .zeroPage), (0x8C#8, .absolute), (0x94#8, .zeroPageX)] ∧
  ∀ b l h : Byte,
    RowRuns (.ldaIndirectX b) 0xA1#8 .lda .indirectX [b] "LDA" (" ($" ++ hex2 b ++ ", X)") ∧
    RowRuns (.ldaZeroPage b) 0xA5#8 .lda .zeroPage [b] "LDA" (" $" ++ hex2 b) ∧
    RowRuns (.ldaImmediate b) 0xA9#8 .lda .immediate [b] "LDA" (" #$" ++ hex2 b) ∧
    RowRuns (.ldaAbsolute l h) 0xAD#8 .lda .absolute [l, h] "LDA" (" $" ++ hex2 h ++ hex2 l) ∧
    RowRuns (.ldaIndirectY b) 0xB1#8 .lda .indirectY [b] "LDA" (" ($" ++ hex2 b ++ "), Y") ∧
    RowRuns (.ldaZeroPageX b) 0xB5#8 .lda .zeroPageX [b] "LDA" (" $" ++ hex2 b ++ ", X") ∧
    RowRuns (.ldaAbsoluteY l h) 0xB9#8 .lda .absoluteY [l, h] "LDA" (" $" ++ hex2 h ++ hex2 l ++ ", Y") ∧
    RowRuns (.ldaAbsoluteX l h) 0xBD#8 .lda .absoluteX [l, h] "LDA" (" $" ++ hex2 h ++ hex2 l ++ ", X") ∧
    RowRuns (.ldxImmediate b) 0xA2#8 .ldx .immediate [b] "LDX" (" #$" ++ hex2 b) ∧
    RowRuns (.ldxZeroPage b) 0xA6#8 .ldx .zeroPage [b] "LDX" (" $" ++ hex2 b) ∧
    RowRuns (.ldxAbsolute l h) 0xAE#8 .ldx .absolute [l, h] "LDX" (" $" ++ hex2 h ++ hex2 l) ∧
    RowRuns (.ldxZeroPageY b) 0xB6#8 .ldx .zeroPageY [b] "LDX" (" $" ++ hex2 b ++ ", Y") ∧
    RowRuns (.ldxAbsoluteY l h) 0xBE#8 .ldx .absoluteY [l, h] "LDX" (" $" ++ hex2 h ++ hex2 l ++ ", Y") ∧
    RowRuns (.ldyImmediate b) 0xA0#8 .ldy .immediate [b] "LDY" (" #$" ++ hex2 b) ∧
    RowRuns (.ldyZeroPage b) 0xA4#8 .ldy .zeroPage [b] "LDY" (" $" ++ hex2 b) ∧
    RowRuns (.ldyAbsolute l h) 0xAC#8 .ldy .absolute [l, h] "LDY" (" $" ++ hex2 h ++ hex2 l) ∧
    RowRuns (.ldyZeroPageX b) 0xB4#8 .ldy .zeroPageX [b] "LDY" (" $" ++ hex2 b ++ ", X") ∧
    RowRuns (.ldyAbsoluteX l h) 0xBC#8 .ldy .absoluteX [l, h] "LDY" (" $" ++ hex2 h ++ hex2 l ++ ", X") ∧
    RowRuns (.staIndirectX b) 0x81#8 .sta .indirectX [b] "STA" (" ($" ++ hex2 b ++ ", X)") ∧
    RowRuns (.staZeroPage b) 0x85#8 .sta .zeroPage [b] "STA" (" $" ++ hex2 b) ∧
    RowRuns (.staAbsolute l h) 0x8D#8 .sta .absolute [l, h] "STA" (" $" ++ hex2 h ++ hex2 l) ∧
    RowRuns (.staIndirectY b) 0x91#8 .sta .indirectY [b] "STA" (" ($" ++ hex2 b ++ "), Y") ∧
    RowRuns (.staZeroPageX b) 0x95#8 .sta .zeroPageX [b] "STA" (" $" ++ hex2 b ++ ", X") ∧
    RowRuns (.staAbsoluteY l h) 0x99#8 .sta .absoluteY [l, h] "STA" (" $" ++ hex2 h ++ hex2 l ++ ", Y") ∧
    RowRuns (.staAbsoluteX l h) 0x9D#8 .sta .absoluteX [l, h] "STA" (" $" ++ hex2 h ++ hex2 l ++ ", X") ∧
    RowRuns (.stxZeroPage b) 0x86#8 .stx .zeroPage [b] "STX" (" $" ++ hex2 b) ∧
    RowRuns (.stxAbsolute l h) 0x8E#8 .stx .absolute [l, h] "STX" (" $" ++ hex2 h ++ hex2 l) ∧
    RowRuns (.stxZeroPageY b) 0x96#8 .stx .zeroPageY [b] "STX" (" $" ++ hex2 b ++ ", Y") ∧
    RowRuns (.styZeroPage b) 0x84#8 .sty .zeroPage [b] "STY" (" $" ++ hex2 b) ∧
    RowRuns (.styAbsolute l h) 0x8C#8 .sty .absolute [l, h] "STY" (" $" ++ hex2 h ++ hex2 l) ∧
    RowRuns (.styZeroPageX b) 0x94#8 .sty .zeroPageX [b] "STY" (" $" ++ hex2 b ++ ", X")

/-- 42_alu.md R71 to R79: ADC, SBC, AND, ORA, EOR, CMP, CPX, CPY and BIT have exactly these rows, and every row runs as its
rule says. The rows outside 30_encoding.md R43 are the
spec's general knowledge (log 9) and the texts rest on its decisions (log 10); what "runs" means is `RowRuns`. -/
def Obligations.AluRowsRun : Prop :=
  rowsOf .adc = [(0x61#8, .indirectX), (0x65#8, .zeroPage), (0x69#8, .immediate), (0x6D#8, .absolute), (0x71#8, .indirectY), (0x75#8, .zeroPageX), (0x79#8, .absoluteY), (0x7D#8, .absoluteX)] ∧
  rowsOf .sbc = [(0xE1#8, .indirectX), (0xE5#8, .zeroPage), (0xE9#8, .immediate), (0xED#8, .absolute), (0xF1#8, .indirectY), (0xF5#8, .zeroPageX), (0xF9#8, .absoluteY), (0xFD#8, .absoluteX)] ∧
  rowsOf .and = [(0x21#8, .indirectX), (0x25#8, .zeroPage), (0x29#8, .immediate), (0x2D#8, .absolute), (0x31#8, .indirectY), (0x35#8, .zeroPageX), (0x39#8, .absoluteY), (0x3D#8, .absoluteX)] ∧
  rowsOf .ora = [(0x01#8, .indirectX), (0x05#8, .zeroPage), (0x09#8, .immediate), (0x0D#8, .absolute), (0x11#8, .indirectY), (0x15#8, .zeroPageX), (0x19#8, .absoluteY), (0x1D#8, .absoluteX)] ∧
  rowsOf .eor = [(0x41#8, .indirectX), (0x45#8, .zeroPage), (0x49#8, .immediate), (0x4D#8, .absolute), (0x51#8, .indirectY), (0x55#8, .zeroPageX), (0x59#8, .absoluteY), (0x5D#8, .absoluteX)] ∧
  rowsOf .cmp = [(0xC1#8, .indirectX), (0xC5#8, .zeroPage), (0xC9#8, .immediate), (0xCD#8, .absolute), (0xD1#8, .indirectY), (0xD5#8, .zeroPageX), (0xD9#8, .absoluteY), (0xDD#8, .absoluteX)] ∧
  rowsOf .cpx = [(0xE0#8, .immediate), (0xE4#8, .zeroPage), (0xEC#8, .absolute)] ∧
  rowsOf .cpy = [(0xC0#8, .immediate), (0xC4#8, .zeroPage), (0xCC#8, .absolute)] ∧
  rowsOf .bit = [(0x24#8, .zeroPage), (0x2C#8, .absolute)] ∧
  ∀ b l h : Byte,
    RowRuns (.adcIndirectX b) 0x61#8 .adc .indirectX [b] "ADC" (" ($" ++ hex2 b ++ ", X)") ∧
    RowRuns (.adcZeroPage b) 0x65#8 .adc .zeroPage [b] "ADC" (" $" ++ hex2 b) ∧
    RowRuns (.adcImmediate b) 0x69#8 .adc .immediate [b] "ADC" (" #$" ++ hex2 b) ∧
    RowRuns (.adcAbsolute l h) 0x6D#8 .adc .absolute [l, h] "ADC" (" $" ++ hex2 h ++ hex2 l) ∧
    RowRuns (.adcIndirectY b) 0x71#8 .adc .indirectY [b] "ADC" (" ($" ++ hex2 b ++ "), Y") ∧
    RowRuns (.adcZeroPageX b) 0x75#8 .adc .zeroPageX [b] "ADC" (" $" ++ hex2 b ++ ", X") ∧
    RowRuns (.adcAbsoluteY l h) 0x79#8 .adc .absoluteY [l, h] "ADC" (" $" ++ hex2 h ++ hex2 l ++ ", Y") ∧
    RowRuns (.adcAbsoluteX l h) 0x7D#8 .adc .absoluteX [l, h] "ADC" (" $" ++ hex2 h ++ hex2 l ++ ", X") ∧
    RowRuns (.sbcIndirectX b) 0xE1#8 .sbc .indirectX [b] "SBC" (" ($" ++ hex2 b ++ ", X)") ∧
    RowRuns (.sbcZeroPage b) 0xE5#8 .sbc .zeroPage [b] "SBC" (" $" ++ hex2 b) ∧
    RowRuns (.sbcImmediate b) 0xE9#8 .sbc .immediate [b] "SBC" (" #$" ++ hex2 b) ∧
    RowRuns (.sbcAbsolute l h) 0xED#8 .sbc .absolute [l, h] "SBC" (" $" ++ hex2 h ++ hex2 l) ∧
    RowRuns (.sbcIndirectY b) 0xF1#8 .sbc .indirectY [b] "SBC" (" ($" ++ hex2 b ++ "), Y") ∧
    RowRuns (.sbcZeroPageX b) 0xF5#8 .sbc .zeroPageX [b] "SBC" (" $" ++ hex2 b ++ ", X") ∧
    RowRuns (.sbcAbsoluteY l h) 0xF9#8 .sbc .absoluteY [l, h] "SBC" (" $" ++ hex2 h ++ hex2 l ++ ", Y") ∧
    RowRuns (.sbcAbsoluteX l h) 0xFD#8 .sbc .absoluteX [l, h] "SBC" (" $" ++ hex2 h ++ hex2 l ++ ", X") ∧
    RowRuns (.andIndirectX b) 0x21#8 .and .indirectX [b] "AND" (" ($" ++ hex2 b ++ ", X)") ∧
    RowRuns (.andZeroPage b) 0x25#8 .and .zeroPage [b] "AND" (" $" ++ hex2 b) ∧
    RowRuns (.andImmediate b) 0x29#8 .and .immediate [b] "AND" (" #$" ++ hex2 b) ∧
    RowRuns (.andAbsolute l h) 0x2D#8 .and .absolute [l, h] "AND" (" $" ++ hex2 h ++ hex2 l) ∧
    RowRuns (.andIndirectY b) 0x31#8 .and .indirectY [b] "AND" (" ($" ++ hex2 b ++ "), Y") ∧
    RowRuns (.andZeroPageX b) 0x35#8 .and .zeroPageX [b] "AND" (" $" ++ hex2 b ++ ", X") ∧
    RowRuns (.andAbsoluteY l h) 0x39#8 .and .absoluteY [l, h] "AND" (" $" ++ hex2 h ++ hex2 l ++ ", Y") ∧
    RowRuns (.andAbsoluteX l h) 0x3D#8 .and .absoluteX [l, h] "AND" (" $" ++ hex2 h ++ hex2 l ++ ", X") ∧
    RowRuns (.oraIndirectX b) 0x01#8 .ora .indirectX [b] "ORA" (" ($" ++ hex2 b ++ ", X)") ∧
    RowRuns (.oraZeroPage b) 0x05#8 .ora .zeroPage [b] "ORA" (" $" ++ hex2 b) ∧
    RowRuns (.oraImmediate b) 0x09#8 .ora .immediate [b] "ORA" (" #$" ++ hex2 b) ∧
    RowRuns (.oraAbsolute l h) 0x0D#8 .ora .absolute [l, h] "ORA" (" $" ++ hex2 h ++ hex2 l) ∧
    RowRuns (.oraIndirectY b) 0x11#8 .ora .indirectY [b] "ORA" (" ($" ++ hex2 b ++ "), Y") ∧
    RowRuns (.oraZeroPageX b) 0x15#8 .ora .zeroPageX [b] "ORA" (" $" ++ hex2 b ++ ", X") ∧
    RowRuns (.oraAbsoluteY l h) 0x19#8 .ora .absoluteY [l, h] "ORA" (" $" ++ hex2 h ++ hex2 l ++ ", Y") ∧
    RowRuns (.oraAbsoluteX l h) 0x1D#8 .ora .absoluteX [l, h] "ORA" (" $" ++ hex2 h ++ hex2 l ++ ", X") ∧
    RowRuns (.eorIndirectX b) 0x41#8 .eor .indirectX [b] "EOR" (" ($" ++ hex2 b ++ ", X)") ∧
    RowRuns (.eorZeroPage b) 0x45#8 .eor .zeroPage [b] "EOR" (" $" ++ hex2 b) ∧
    RowRuns (.eorImmediate b) 0x49#8 .eor .immediate [b] "EOR" (" #$" ++ hex2 b) ∧
    RowRuns (.eorAbsolute l h) 0x4D#8 .eor .absolute [l, h] "EOR" (" $" ++ hex2 h ++ hex2 l) ∧
    RowRuns (.eorIndirectY b) 0x51#8 .eor .indirectY [b] "EOR" (" ($" ++ hex2 b ++ "), Y") ∧
    RowRuns (.eorZeroPageX b) 0x55#8 .eor .zeroPageX [b] "EOR" (" $" ++ hex2 b ++ ", X") ∧
    RowRuns (.eorAbsoluteY l h) 0x59#8 .eor .absoluteY [l, h] "EOR" (" $" ++ hex2 h ++ hex2 l ++ ", Y") ∧
    RowRuns (.eorAbsoluteX l h) 0x5D#8 .eor .absoluteX [l, h] "EOR" (" $" ++ hex2 h ++ hex2 l ++ ", X") ∧
    RowRuns (.cmpIndirectX b) 0xC1#8 .cmp .indirectX [b] "CMP" (" ($" ++ hex2 b ++ ", X)") ∧
    RowRuns (.cmpZeroPage b) 0xC5#8 .cmp .zeroPage [b] "CMP" (" $" ++ hex2 b) ∧
    RowRuns (.cmpImmediate b) 0xC9#8 .cmp .immediate [b] "CMP" (" #$" ++ hex2 b) ∧
    RowRuns (.cmpAbsolute l h) 0xCD#8 .cmp .absolute [l, h] "CMP" (" $" ++ hex2 h ++ hex2 l) ∧
    RowRuns (.cmpIndirectY b) 0xD1#8 .cmp .indirectY [b] "CMP" (" ($" ++ hex2 b ++ "), Y") ∧
    RowRuns (.cmpZeroPageX b) 0xD5#8 .cmp .zeroPageX [b] "CMP" (" $" ++ hex2 b ++ ", X") ∧
    RowRuns (.cmpAbsoluteY l h) 0xD9#8 .cmp .absoluteY [l, h] "CMP" (" $" ++ hex2 h ++ hex2 l ++ ", Y") ∧
    RowRuns (.cmpAbsoluteX l h) 0xDD#8 .cmp .absoluteX [l, h] "CMP" (" $" ++ hex2 h ++ hex2 l ++ ", X") ∧
    RowRuns (.cpxImmediate b) 0xE0#8 .cpx .immediate [b] "CPX" (" #$" ++ hex2 b) ∧
    RowRuns (.cpxZeroPage b) 0xE4#8 .cpx .zeroPage [b] "CPX" (" $" ++ hex2 b) ∧
    RowRuns (.cpxAbsolute l h) 0xEC#8 .cpx .absolute [l, h] "CPX" (" $" ++ hex2 h ++ hex2 l) ∧
    RowRuns (.cpyImmediate b) 0xC0#8 .cpy .immediate [b] "CPY" (" #$" ++ hex2 b) ∧
    RowRuns (.cpyZeroPage b) 0xC4#8 .cpy .zeroPage [b] "CPY" (" $" ++ hex2 b) ∧
    RowRuns (.cpyAbsolute l h) 0xCC#8 .cpy .absolute [l, h] "CPY" (" $" ++ hex2 h ++ hex2 l) ∧
    RowRuns (.bitZeroPage b) 0x24#8 .bit .zeroPage [b] "BIT" (" $" ++ hex2 b) ∧
    RowRuns (.bitAbsolute l h) 0x2C#8 .bit .absolute [l, h] "BIT" (" $" ++ hex2 h ++ hex2 l)

/-- 43_read_modify_write.md R80 to R85: ASL, LSR, ROL, ROR, INC and DEC have exactly these rows, and every row runs as its
rule says. The rows outside 30_encoding.md R43 are the
spec's general knowledge (log 9) and the texts rest on its decisions (log 10); what "runs" means is `RowRuns`. -/
def Obligations.ReadModifyWriteRowsRun : Prop :=
  rowsOf .asl = [(0x06#8, .zeroPage), (0x0A#8, .accumulator), (0x0E#8, .absolute), (0x16#8, .zeroPageX), (0x1E#8, .absoluteX)] ∧
  rowsOf .lsr = [(0x46#8, .zeroPage), (0x4A#8, .accumulator), (0x4E#8, .absolute), (0x56#8, .zeroPageX), (0x5E#8, .absoluteX)] ∧
  rowsOf .rol = [(0x26#8, .zeroPage), (0x2A#8, .accumulator), (0x2E#8, .absolute), (0x36#8, .zeroPageX), (0x3E#8, .absoluteX)] ∧
  rowsOf .ror = [(0x66#8, .zeroPage), (0x6A#8, .accumulator), (0x6E#8, .absolute), (0x76#8, .zeroPageX), (0x7E#8, .absoluteX)] ∧
  rowsOf .inc = [(0xE6#8, .zeroPage), (0xEE#8, .absolute), (0xF6#8, .zeroPageX), (0xFE#8, .absoluteX)] ∧
  rowsOf .dec = [(0xC6#8, .zeroPage), (0xCE#8, .absolute), (0xD6#8, .zeroPageX), (0xDE#8, .absoluteX)] ∧
  ∀ b l h : Byte,
    RowRuns (.aslZeroPage b) 0x06#8 .asl .zeroPage [b] "ASL" (" $" ++ hex2 b) ∧
    RowRuns .aslAccumulator 0x0A#8 .asl .accumulator [] "ASL" " A" ∧
    RowRuns (.aslAbsolute l h) 0x0E#8 .asl .absolute [l, h] "ASL" (" $" ++ hex2 h ++ hex2 l) ∧
    RowRuns (.aslZeroPageX b) 0x16#8 .asl .zeroPageX [b] "ASL" (" $" ++ hex2 b ++ ", X") ∧
    RowRuns (.aslAbsoluteX l h) 0x1E#8 .asl .absoluteX [l, h] "ASL" (" $" ++ hex2 h ++ hex2 l ++ ", X") ∧
    RowRuns (.lsrZeroPage b) 0x46#8 .lsr .zeroPage [b] "LSR" (" $" ++ hex2 b) ∧
    RowRuns .lsrAccumulator 0x4A#8 .lsr .accumulator [] "LSR" " A" ∧
    RowRuns (.lsrAbsolute l h) 0x4E#8 .lsr .absolute [l, h] "LSR" (" $" ++ hex2 h ++ hex2 l) ∧
    RowRuns (.lsrZeroPageX b) 0x56#8 .lsr .zeroPageX [b] "LSR" (" $" ++ hex2 b ++ ", X") ∧
    RowRuns (.lsrAbsoluteX l h) 0x5E#8 .lsr .absoluteX [l, h] "LSR" (" $" ++ hex2 h ++ hex2 l ++ ", X") ∧
    RowRuns (.rolZeroPage b) 0x26#8 .rol .zeroPage [b] "ROL" (" $" ++ hex2 b) ∧
    RowRuns .rolAccumulator 0x2A#8 .rol .accumulator [] "ROL" " A" ∧
    RowRuns (.rolAbsolute l h) 0x2E#8 .rol .absolute [l, h] "ROL" (" $" ++ hex2 h ++ hex2 l) ∧
    RowRuns (.rolZeroPageX b) 0x36#8 .rol .zeroPageX [b] "ROL" (" $" ++ hex2 b ++ ", X") ∧
    RowRuns (.rolAbsoluteX l h) 0x3E#8 .rol .absoluteX [l, h] "ROL" (" $" ++ hex2 h ++ hex2 l ++ ", X") ∧
    RowRuns (.rorZeroPage b) 0x66#8 .ror .zeroPage [b] "ROR" (" $" ++ hex2 b) ∧
    RowRuns .rorAccumulator 0x6A#8 .ror .accumulator [] "ROR" " A" ∧
    RowRuns (.rorAbsolute l h) 0x6E#8 .ror .absolute [l, h] "ROR" (" $" ++ hex2 h ++ hex2 l) ∧
    RowRuns (.rorZeroPageX b) 0x76#8 .ror .zeroPageX [b] "ROR" (" $" ++ hex2 b ++ ", X") ∧
    RowRuns (.rorAbsoluteX l h) 0x7E#8 .ror .absoluteX [l, h] "ROR" (" $" ++ hex2 h ++ hex2 l ++ ", X") ∧
    RowRuns (.incZeroPage b) 0xE6#8 .inc .zeroPage [b] "INC" (" $" ++ hex2 b) ∧
    RowRuns (.incAbsolute l h) 0xEE#8 .inc .absolute [l, h] "INC" (" $" ++ hex2 h ++ hex2 l) ∧
    RowRuns (.incZeroPageX b) 0xF6#8 .inc .zeroPageX [b] "INC" (" $" ++ hex2 b ++ ", X") ∧
    RowRuns (.incAbsoluteX l h) 0xFE#8 .inc .absoluteX [l, h] "INC" (" $" ++ hex2 h ++ hex2 l ++ ", X") ∧
    RowRuns (.decZeroPage b) 0xC6#8 .dec .zeroPage [b] "DEC" (" $" ++ hex2 b) ∧
    RowRuns (.decAbsolute l h) 0xCE#8 .dec .absolute [l, h] "DEC" (" $" ++ hex2 h ++ hex2 l) ∧
    RowRuns (.decZeroPageX b) 0xD6#8 .dec .zeroPageX [b] "DEC" (" $" ++ hex2 b ++ ", X") ∧
    RowRuns (.decAbsoluteX l h) 0xDE#8 .dec .absoluteX [l, h] "DEC" (" $" ++ hex2 h ++ hex2 l ++ ", X")

/-- 44_register.md R86 to R95: TAX, TAY, TSX, TXA, TXS, TYA, INX, INY, DEX and DEY have one Implicit row each, which runs as
its rule says; the truncated clause of `RowRuns` is empty for a one-byte instruction. The rows outside 30_encoding.md R43 are the
spec's general knowledge (log 9) and the texts rest on its decisions (log 10); what "runs" means is `RowRuns`. -/
def Obligations.RegisterRowsRun : Prop :=
  rowsOf .tax = [(0xAA#8, .implicit)] ∧
  rowsOf .tay = [(0xA8#8, .implicit)] ∧
  rowsOf .tsx = [(0xBA#8, .implicit)] ∧
  rowsOf .txa = [(0x8A#8, .implicit)] ∧
  rowsOf .txs = [(0x9A#8, .implicit)] ∧
  rowsOf .tya = [(0x98#8, .implicit)] ∧
  rowsOf .inx = [(0xE8#8, .implicit)] ∧
  rowsOf .iny = [(0xC8#8, .implicit)] ∧
  rowsOf .dex = [(0xCA#8, .implicit)] ∧
  rowsOf .dey = [(0x88#8, .implicit)] ∧
  RowRuns .tax 0xAA#8 .tax .implicit [] "TAX" "" ∧
  RowRuns .tay 0xA8#8 .tay .implicit [] "TAY" "" ∧
  RowRuns .tsx 0xBA#8 .tsx .implicit [] "TSX" "" ∧
  RowRuns .txa 0x8A#8 .txa .implicit [] "TXA" "" ∧
  RowRuns .txs 0x9A#8 .txs .implicit [] "TXS" "" ∧
  RowRuns .tya 0x98#8 .tya .implicit [] "TYA" "" ∧
  RowRuns .inx 0xE8#8 .inx .implicit [] "INX" "" ∧
  RowRuns .iny 0xC8#8 .iny .implicit [] "INY" "" ∧
  RowRuns .dex 0xCA#8 .dex .implicit [] "DEX" "" ∧
  RowRuns .dey 0x88#8 .dey .implicit [] "DEY" ""

/-- 45_stack.md R96 to R99: PHA, PHP, PLA and PLP have one Implicit row each, which runs as its rule says. The rows outside 30_encoding.md R43 are the
spec's general knowledge (log 9) and the texts rest on its decisions (log 10); what "runs" means is `RowRuns`. -/
def Obligations.StackRowsRun : Prop :=
  rowsOf .pha = [(0x48#8, .implicit)] ∧
  rowsOf .php = [(0x08#8, .implicit)] ∧
  rowsOf .pla = [(0x68#8, .implicit)] ∧
  rowsOf .plp = [(0x28#8, .implicit)] ∧
  RowRuns .pha 0x48#8 .pha .implicit [] "PHA" "" ∧
  RowRuns .php 0x08#8 .php .implicit [] "PHP" "" ∧
  RowRuns .pla 0x68#8 .pla .implicit [] "PLA" "" ∧
  RowRuns .plp 0x28#8 .plp .implicit [] "PLP" ""

/-- 46_control.md R100 to R104: JMP, JSR, RTS, RTI and BRK have exactly these rows, and every row runs as its rule says;
BRK is one byte (log 10). The rows outside 30_encoding.md R43 are the
spec's general knowledge (log 9) and the texts rest on its decisions (log 10); what "runs" means is `RowRuns`. -/
def Obligations.JumpAndBreakRowsRun : Prop :=
  rowsOf .jmp = [(0x4C#8, .absolute), (0x6C#8, .indirect)] ∧
  rowsOf .jsr = [(0x20#8, .absolute)] ∧
  rowsOf .rts = [(0x60#8, .implicit)] ∧
  rowsOf .rti = [(0x40#8, .implicit)] ∧
  rowsOf .brk = [(0x00#8, .implicit)] ∧
  ∀ l h : Byte,
    RowRuns (.jmpAbsolute l h) 0x4C#8 .jmp .absolute [l, h] "JMP" (" $" ++ hex2 h ++ hex2 l) ∧
    RowRuns (.jmpIndirect l h) 0x6C#8 .jmp .indirect [l, h] "JMP" (" ($" ++ hex2 h ++ hex2 l ++ ")") ∧
    RowRuns (.jsr l h) 0x20#8 .jsr .absolute [l, h] "JSR" (" $" ++ hex2 h ++ hex2 l) ∧
    RowRuns .rts 0x60#8 .rts .implicit [] "RTS" "" ∧
    RowRuns .rti 0x40#8 .rti .implicit [] "RTI" "" ∧
    RowRuns .brk 0x00#8 .brk .implicit [] "BRK" ""

/-- 46_control.md R105 to R112: the eight branches have one Relative row each, which runs as its rule says: the raw offset
byte is printed and no target is computed (R41; log 10). The rows outside 30_encoding.md R43 are the
spec's general knowledge (log 9) and the texts rest on its decisions (log 10); what "runs" means is `RowRuns`. -/
def Obligations.BranchRowsRun : Prop :=
  rowsOf .bpl = [(0x10#8, .relative)] ∧
  rowsOf .bmi = [(0x30#8, .relative)] ∧
  rowsOf .bvc = [(0x50#8, .relative)] ∧
  rowsOf .bvs = [(0x70#8, .relative)] ∧
  rowsOf .bcc = [(0x90#8, .relative)] ∧
  rowsOf .bcs = [(0xB0#8, .relative)] ∧
  rowsOf .bne = [(0xD0#8, .relative)] ∧
  rowsOf .beq = [(0xF0#8, .relative)] ∧
  ∀ b : Byte,
    RowRuns (.bpl b) 0x10#8 .bpl .relative [b] "BPL" (" $" ++ hex2 b) ∧
    RowRuns (.bmi b) 0x30#8 .bmi .relative [b] "BMI" (" $" ++ hex2 b) ∧
    RowRuns (.bvc b) 0x50#8 .bvc .relative [b] "BVC" (" $" ++ hex2 b) ∧
    RowRuns (.bvs b) 0x70#8 .bvs .relative [b] "BVS" (" $" ++ hex2 b) ∧
    RowRuns (.bcc b) 0x90#8 .bcc .relative [b] "BCC" (" $" ++ hex2 b) ∧
    RowRuns (.bcs b) 0xB0#8 .bcs .relative [b] "BCS" (" $" ++ hex2 b) ∧
    RowRuns (.bne b) 0xD0#8 .bne .relative [b] "BNE" (" $" ++ hex2 b) ∧
    RowRuns (.beq b) 0xF0#8 .beq .relative [b] "BEQ" (" $" ++ hex2 b)

/-- 47_flag_and_nop.md R113 to R120: CLC, SEC, CLI, SEI, CLV, CLD, SED and NOP have one Implicit row each, which runs as its
rule says. The rows outside 30_encoding.md R43 are the
spec's general knowledge (log 9) and the texts rest on its decisions (log 10); what "runs" means is `RowRuns`. -/
def Obligations.FlagAndNopRowsRun : Prop :=
  rowsOf .clc = [(0x18#8, .implicit)] ∧
  rowsOf .sec = [(0x38#8, .implicit)] ∧
  rowsOf .cli = [(0x58#8, .implicit)] ∧
  rowsOf .sei = [(0x78#8, .implicit)] ∧
  rowsOf .clv = [(0xB8#8, .implicit)] ∧
  rowsOf .cld = [(0xD8#8, .implicit)] ∧
  rowsOf .sed = [(0xF8#8, .implicit)] ∧
  rowsOf .nop = [(0xEA#8, .implicit)] ∧
  RowRuns .clc 0x18#8 .clc .implicit [] "CLC" "" ∧
  RowRuns .sec 0x38#8 .sec .implicit [] "SEC" "" ∧
  RowRuns .cli 0x58#8 .cli .implicit [] "CLI" "" ∧
  RowRuns .sei 0x78#8 .sei .implicit [] "SEI" "" ∧
  RowRuns .clv 0xB8#8 .clv .implicit [] "CLV" "" ∧
  RowRuns .cld 0xD8#8 .cld .implicit [] "CLD" "" ∧
  RowRuns .sed 0xF8#8 .sed .implicit [] "SED" "" ∧
  RowRuns .nop 0xEA#8 .nop .implicit [] "NOP" ""

/-- 48_undefined.md R121, 40_decode_and_format.md R50: every undefined opcode value runs as the `Undefined` record, length 1,
text `???`. The record's fields are the spec's decision D9 (log 10), the list of values its general knowledge (log 9). -/
def Obligations.UndefinedValuesRun : Prop :=
  UndefinedRuns .undefined02 0x02#8 ∧ UndefinedRuns .undefined03 0x03#8 ∧ UndefinedRuns .undefined04 0x04#8 ∧
  UndefinedRuns .undefined07 0x07#8 ∧ UndefinedRuns .undefined0B 0x0B#8 ∧ UndefinedRuns .undefined0C 0x0C#8 ∧
  UndefinedRuns .undefined0F 0x0F#8 ∧ UndefinedRuns .undefined12 0x12#8 ∧ UndefinedRuns .undefined13 0x13#8 ∧
  UndefinedRuns .undefined14 0x14#8 ∧ UndefinedRuns .undefined17 0x17#8 ∧ UndefinedRuns .undefined1A 0x1A#8 ∧
  UndefinedRuns .undefined1B 0x1B#8 ∧ UndefinedRuns .undefined1C 0x1C#8 ∧ UndefinedRuns .undefined1F 0x1F#8 ∧
  UndefinedRuns .undefined22 0x22#8 ∧ UndefinedRuns .undefined23 0x23#8 ∧ UndefinedRuns .undefined27 0x27#8 ∧
  UndefinedRuns .undefined2B 0x2B#8 ∧ UndefinedRuns .undefined2F 0x2F#8 ∧ UndefinedRuns .undefined32 0x32#8 ∧
  UndefinedRuns .undefined33 0x33#8 ∧ UndefinedRuns .undefined34 0x34#8 ∧ UndefinedRuns .undefined37 0x37#8 ∧
  UndefinedRuns .undefined3A 0x3A#8 ∧ UndefinedRuns .undefined3B 0x3B#8 ∧ UndefinedRuns .undefined3C 0x3C#8 ∧
  UndefinedRuns .undefined3F 0x3F#8 ∧ UndefinedRuns .undefined42 0x42#8 ∧ UndefinedRuns .undefined43 0x43#8 ∧
  UndefinedRuns .undefined44 0x44#8 ∧ UndefinedRuns .undefined47 0x47#8 ∧ UndefinedRuns .undefined4B 0x4B#8 ∧
  UndefinedRuns .undefined4F 0x4F#8 ∧ UndefinedRuns .undefined52 0x52#8 ∧ UndefinedRuns .undefined53 0x53#8 ∧
  UndefinedRuns .undefined54 0x54#8 ∧ UndefinedRuns .undefined57 0x57#8 ∧ UndefinedRuns .undefined5A 0x5A#8 ∧
  UndefinedRuns .undefined5B 0x5B#8 ∧ UndefinedRuns .undefined5C 0x5C#8 ∧ UndefinedRuns .undefined5F 0x5F#8 ∧
  UndefinedRuns .undefined62 0x62#8 ∧ UndefinedRuns .undefined63 0x63#8 ∧ UndefinedRuns .undefined64 0x64#8 ∧
  UndefinedRuns .undefined67 0x67#8 ∧ UndefinedRuns .undefined6B 0x6B#8 ∧ UndefinedRuns .undefined6F 0x6F#8 ∧
  UndefinedRuns .undefined72 0x72#8 ∧ UndefinedRuns .undefined73 0x73#8 ∧ UndefinedRuns .undefined74 0x74#8 ∧
  UndefinedRuns .undefined77 0x77#8 ∧ UndefinedRuns .undefined7A 0x7A#8 ∧ UndefinedRuns .undefined7B 0x7B#8 ∧
  UndefinedRuns .undefined7C 0x7C#8 ∧ UndefinedRuns .undefined7F 0x7F#8 ∧ UndefinedRuns .undefined80 0x80#8 ∧
  UndefinedRuns .undefined82 0x82#8 ∧ UndefinedRuns .undefined83 0x83#8 ∧ UndefinedRuns .undefined87 0x87#8 ∧
  UndefinedRuns .undefined89 0x89#8 ∧ UndefinedRuns .undefined8B 0x8B#8 ∧ UndefinedRuns .undefined8F 0x8F#8 ∧
  UndefinedRuns .undefined92 0x92#8 ∧ UndefinedRuns .undefined93 0x93#8 ∧ UndefinedRuns .undefined97 0x97#8 ∧
  UndefinedRuns .undefined9B 0x9B#8 ∧ UndefinedRuns .undefined9C 0x9C#8 ∧ UndefinedRuns .undefined9E 0x9E#8 ∧
  UndefinedRuns .undefined9F 0x9F#8 ∧ UndefinedRuns .undefinedA3 0xA3#8 ∧ UndefinedRuns .undefinedA7 0xA7#8 ∧
  UndefinedRuns .undefinedAB 0xAB#8 ∧ UndefinedRuns .undefinedAF 0xAF#8 ∧ UndefinedRuns .undefinedB2 0xB2#8 ∧
  UndefinedRuns .undefinedB3 0xB3#8 ∧ UndefinedRuns .undefinedB7 0xB7#8 ∧ UndefinedRuns .undefinedBB 0xBB#8 ∧
  UndefinedRuns .undefinedBF 0xBF#8 ∧ UndefinedRuns .undefinedC2 0xC2#8 ∧ UndefinedRuns .undefinedC3 0xC3#8 ∧
  UndefinedRuns .undefinedC7 0xC7#8 ∧ UndefinedRuns .undefinedCB 0xCB#8 ∧ UndefinedRuns .undefinedCF 0xCF#8 ∧
  UndefinedRuns .undefinedD2 0xD2#8 ∧ UndefinedRuns .undefinedD3 0xD3#8 ∧ UndefinedRuns .undefinedD4 0xD4#8 ∧
  UndefinedRuns .undefinedD7 0xD7#8 ∧ UndefinedRuns .undefinedDA 0xDA#8 ∧ UndefinedRuns .undefinedDB 0xDB#8 ∧
  UndefinedRuns .undefinedDC 0xDC#8 ∧ UndefinedRuns .undefinedDF 0xDF#8 ∧ UndefinedRuns .undefinedE2 0xE2#8 ∧
  UndefinedRuns .undefinedE3 0xE3#8 ∧ UndefinedRuns .undefinedE7 0xE7#8 ∧ UndefinedRuns .undefinedEB 0xEB#8 ∧
  UndefinedRuns .undefinedEF 0xEF#8 ∧ UndefinedRuns .undefinedF2 0xF2#8 ∧ UndefinedRuns .undefinedF3 0xF3#8 ∧
  UndefinedRuns .undefinedF4 0xF4#8 ∧ UndefinedRuns .undefinedF7 0xF7#8 ∧ UndefinedRuns .undefinedFA 0xFA#8 ∧
  UndefinedRuns .undefinedFB 0xFB#8 ∧ UndefinedRuns .undefinedFC 0xFC#8 ∧ UndefinedRuns .undefinedFF 0xFF#8

/-! The step and the decode algorithm. -/

/-- When the bytes at the cursor decode to an instruction, the step is the meaning of that instruction; the decoder's
instruction is always well-formed. 40_decode_and_format.md R48, R58. -/
def Obligations.StepRunsDecodedInstruction : Prop :=
  ∀ (s : State) (i : Instr) (rest : List Byte),
    decode (s.buf.slice s.off s.buf.len) = .ok (i, rest) → i.wf = true ∧ step s = exec i s

/-- 40_decode_and_format.md R48 with the loop body of R58 as one step (log 1) and the returned record kept (log 3): the step, which runs one meaning per opcode row, gives
exactly what the decode algorithm over `TABLE` gives, in every state with an opcode to read; with none the algorithm gives
`Invalid` (what the machine does then is `InvalidCallIsHostFault`). -/
def Obligations.StepFollowsDecodeAlgorithm : Prop :=
  ∀ s : State,
    (s.off < s.buf.len →
      step s = .next
        { buf := s.buf
          off := s.off + (decodeCall s.buf s.off).length
          lines := s.lines ++ [(decodeCall s.buf s.off).text ++ "\n"]
          result := some (decodeCall s.buf s.off) }) ∧
    (s.buf.len = 0 ∨ s.buf.len ≤ s.off → decodeCall s.buf s.off = .invalid)

/-- 40_decode_and_format.md R51: a defined opcode whose operand bytes all lie in the buffer gives `Ok` with exactly those
bytes in buffer order, whatever follows them. -/
def Obligations.NormalDecode : Prop :=
  ∀ (s : State) (e : TableEntry), TABLE (s.buf.byteAt s.off) = some e → s.off + 1 + opCount e.mode ≤ s.buf.len →
    let d : Decoded :=
      { opcode := s.buf.byteAt s.off, mnemonic := e.mnemonic, mode := e.mode, needed := opCount e.mode
        operands := s.buf.slice (s.off + 1) (s.off + 1 + opCount e.mode), length := 1 + opCount e.mode }
    step s = .next
      { buf := s.buf, off := s.off + 1 + opCount e.mode
        lines := s.lines ++ [(Result.ok d).text ++ "\n"], result := some (.ok d) }

/-- 40_decode_and_format.md R52, R55 (with decision D10, log 10): a defined opcode the buffer ends inside gives `Truncated`
with the operand bytes present and no others, and consumes the rest of the buffer. -/
def Obligations.TruncatedDecode : Prop :=
  ∀ (s : State) (e : TableEntry), TABLE (s.buf.byteAt s.off) = some e → s.off < s.buf.len →
    s.buf.len < s.off + 1 + opCount e.mode →
    step s = .next
      { buf := s.buf, off := s.buf.len
        lines := s.lines ++ [e.mnemonic.text ++ " <truncated>\n"]
        result := some (.truncated
          { opcode := s.buf.byteAt s.off, mnemonic := e.mnemonic, mode := e.mode, needed := opCount e.mode
            operands := s.buf.slice (s.off + 1) s.buf.len, length := s.buf.len - s.off }) }

/-- 40_decode_and_format.md R50, R55 (with decision D9, log 10): an undefined opcode gives `Undefined` and consumes one byte,
at the last index of the buffer too. -/
def Obligations.UndefinedDecode : Prop :=
  ∀ s : State, TABLE (s.buf.byteAt s.off) = none → s.off < s.buf.len →
    step s = .next
      { buf := s.buf, off := s.off + 1, lines := s.lines ++ ["???\n"]
        result := some (.undefined (undefinedRecord (s.buf.byteAt s.off))) }

/-- 40_decode_and_format.md R49, 60_exceptions.md R124 (with decision D11, log 6): a call on an empty buffer or past its end
is `Invalid`, of length 0 and with no line, and is the host's fault; no other call is either. -/
def Obligations.InvalidCallIsHostFault : Prop :=
  ∀ s : State,
    (step s = .fault .invalidInput ↔ s.buf.len = 0 ∨ s.buf.len ≤ s.off) ∧
    (decodeCall s.buf s.off = .invalid ↔ s.buf.len = 0 ∨ s.buf.len ≤ s.off) ∧
    Result.invalid.length = 0 ∧ Result.invalid.line? = none

/-- 60_exceptions.md R125: no outcome stops the block. Every call, on any buffer at any offset, ends with one of the four
results, every call with an opcode to read goes on, and no instruction is refused. -/
def Obligations.EveryCallHasOneResult : Prop :=
  ∀ s : State,
    ((∃ d, decodeCall s.buf s.off = .ok d) ∨ (∃ d, decodeCall s.buf s.off = .undefined d) ∨
      (∃ d, decodeCall s.buf s.off = .truncated d) ∨ decodeCall s.buf s.off = .invalid) ∧
    (s.validCall → ∃ t, step s = .next t ∧ t.result = some (decodeCall s.buf s.off)) ∧
    (¬ s.validCall → decodeCall s.buf s.off = .invalid) ∧
    (∀ x, step s ≠ .refused x) ∧ (∀ i x, exec i s ≠ .refused x)

/-- 60_exceptions.md R127 (with decision D18, log 10): `Invalid` first, then `Undefined`, then `Truncated`, else `Ok`. -/
def Obligations.OutcomePriority : Prop :=
  ∀ (buf : Memory) (off : Nat),
    (decodeCall buf off).status =
      if buf.len = 0 ∨ buf.len ≤ off then .invalid
      else if TABLE (buf.byteAt off) = none then .undefined
      else if buf.len - off - 1 < neededBy (buf.byteAt off) then .truncated
      else .ok

/-- 10_state.md R20 (with decisions D9 to D11, log 10): the field invariants hold of the result of every call. -/
def Obligations.ResultFieldInvariants : Prop :=
  ∀ (buf : Memory) (off : Nat), (decodeCall buf off).wf = true

/-- 40_decode_and_format.md R60 (derived in the spec): every call at a valid offset consumes 1 to 3 bytes and never past the
end of the buffer. -/
def Obligations.ForwardProgress : Prop :=
  ∀ (buf : Memory) (off : Nat), off < buf.len →
    1 ≤ (decodeCall buf off).length ∧ (decodeCall buf off).length ≤ 3 ∧ off + (decodeCall buf off).length ≤ buf.len

/-- 40_decode_and_format.md R61: the length of a defined opcode whose instruction fits is 1 plus its mode's operand bytes,
whatever the buffer holds; only a `Truncated` result is shorter than the mode dictates. -/
def Obligations.LengthConsistency : Prop :=
  ∀ (buf : Memory) (off : Nat), off < buf.len →
    (∀ e, TABLE (buf.byteAt off) = some e → off + (1 + opCount e.mode) ≤ buf.len →
      (decodeCall buf off).length = 1 + opCount e.mode ∧ (decodeCall buf off).status = .ok) ∧
    (decodeCall buf off).length ≤ instructionLength (buf.byteAt off) ∧
    ((decodeCall buf off).length < instructionLength (buf.byteAt off) ↔ (decodeCall buf off).status = .truncated)

/-! What a call reads and what it leaves alone. -/

/-- 20_memory.md R29: the bytes one call reads, and no others: the indices are these, at most three, all inside the buffer;
and a buffer of the same length that agrees on them gives the same result and the same step. -/
def Obligations.ReadsAreExactlyTheListed : Prop :=
  ∀ (buf : Memory) (off : Nat),
    (∀ a, a ∈ callReads buf off ↔
      (a = off ∧ off < buf.len) ∨
      (a = off + 1 ∧ 1 ≤ neededBy (buf.byteAt off) ∧ off + 1 < buf.len) ∨
      (a = off + 2 ∧ neededBy (buf.byteAt off) = 2 ∧ off + 2 < buf.len)) ∧
    (callReads buf off).length ≤ 3 ∧
    (∀ a ∈ callReads buf off, a < buf.len) ∧
    (∀ buf' : Memory, buf'.len = buf.len → (∀ a ∈ callReads buf off, buf'.byteAt a = buf.byteAt a) →
      decodeCall buf' off = decodeCall buf off ∧
      ∀ lines result,
        step { buf := buf', off := off, lines := lines, result := result } =
          conclude (decodeCall buf off) { buf := buf', off := off, lines := lines, result := result })

/-- 20_memory.md R30: a call has no side effect on the buffer and is a function of the buffer's contents and the offset:
equal contents and equal offsets give equal results, whatever was decoded before. -/
def Obligations.CallsArePure : Prop :=
  ∀ s t s' t' : State,
    (∀ a, s.buf.read a = t.buf.read a) → s.off = t.off → step s = .next s' → step t = .next t' →
      s'.buf = s.buf ∧ t'.buf = t.buf ∧ s'.result = t'.result ∧ s'.off = t'.off ∧
      ∃ line, s'.lines = s.lines ++ [line] ∧ t'.lines = t.lines ++ [line]

/-- 60_exceptions.md R128: an outcome is exact for the call that produced it and changes nothing: the buffer is as it was, and
the next call's result depends on the buffer and the new offset only, not on the outcome before it. -/
def Obligations.OutcomeChangesNothing : Prop :=
  ∀ s t u : State, step s = .next t → u.buf = t.buf → u.off = t.off →
    t.buf = s.buf ∧
    (∀ a, t.buf.read a = s.buf.read a) ∧
    (nextState? (step u)).map State.result = (nextState? (step t)).map State.result ∧
    (nextState? (step u)).map State.off = (nextState? (step t)).map State.off

/-- 60_exceptions.md R129, 40_decode_and_format.md R58: where the host resumes after each outcome. -/
def Obligations.HostResumesAfterOutcome : Prop :=
  ∀ s t : State, step s = .next t →
    (∀ d, t.result = some (.undefined d) → t.off = s.off + 1) ∧
    (∀ d, t.result = some (.truncated d) → t.off = s.off + d.length ∧ t.off = t.buf.len ∧ ¬ t.validCall) ∧
    (∀ d, t.result = some (.ok d) → t.off = s.off + d.length)

/-- 40_decode_and_format.md R63: one record and one line a call, for every opcode; 0x8A is `TXA` and nothing of 0x8C's
rendering. -/
def Obligations.OneRecordOneLine : Prop :=
  ∀ s t : State, step s = .next t →
    (∃ r, t.result = some r ∧ r.line? = some (r.text ++ "\n") ∧ t.lines = s.lines ++ [r.text ++ "\n"]) ∧
    (s.buf.byteAt s.off = 0x8A#8 →
      t.lines = s.lines ++ ["TXA\n"] ∧ t.off = s.off + 1 ∧
      t.result = some (.ok { opcode := 0x8A#8, mnemonic := .txa, mode := .implicit, needed := 0, operands := []
                             length := 1 }))

/-- 60_exceptions.md R126: the outcomes are told apart by the variant tag alone. -/
def Obligations.OutcomesDistinguishable : Prop :=
  ∀ r : Result,
    (r.status = .ok ↔ ∃ d, r = .ok d) ∧ (r.status = .undefined ↔ ∃ d, r = .undefined d) ∧
    (r.status = .truncated ↔ ∃ d, r = .truncated d) ∧ (r.status = .invalid ↔ r = .invalid)

/-- The frame of every instruction: when its meaning goes on, the buffer is unchanged byte for byte, exactly one line is
added, and the cursor moves forward by 1 to 3 and not past the end. 20_memory.md R30, 40_decode_and_format.md R57, R60. -/
def Obligations.InstructionFrame : Prop :=
  ∀ (i : Instr) (s t : State), exec i s = .next t →
    t.buf = s.buf ∧ (∀ a, t.buf.read a = s.buf.read a) ∧
    (∃ line, t.lines = s.lines ++ [line]) ∧
    s.off < t.off ∧ t.off ≤ s.off + 3 ∧ t.off ≤ s.buf.len

/-! The port view. -/

/-- 10_state.md R22 (derived in the spec): no output depends on a window byte that lies outside the buffer. -/
def Obligations.OutsideWindowBytesDoNotMatter : Prop :=
  ∀ v w : Window, v.avail = w.avail →
    (1 ≤ v.avail.val → v.w0 = w.w0) → (2 ≤ v.avail.val → v.w1 = w.w1) → (3 ≤ v.avail.val → v.w2 = w.w2) →
    block v = block w

/-- 10_state.md R21 (with decision D1): the block as a function of its window gives the outputs of `decode(buf, off)`, for
every buffer and offset. -/
def Obligations.PortViewAgrees : Prop :=
  ∀ (buf : Memory) (off : Nat), block (windowOf buf off) = portsOf (decodeCall buf off)

/-- 10_state.md R14, R19, R21 (with decisions D2, D3, D4, D9 and D24, log 11, log 10; ASCII by log 18): what the ports carry
on every window, in literal values. With no opcode byte every port is zero but `status`; an undefined opcode gives `???`
(3F3F3F); a defined one gives its row's mode code and mnemonic, the operand bytes that lie in the window, and zeros for
those that do not. `mnem` holds the first character in bits 23:16. The text is `render(result)`, at most 15 characters. The
status codes are 0 to 3 and the mode codes 0 to 12 in the order of R19 and R14, so modes 13 to 15 are never produced. -/
def Obligations.PortFills : Prop :=
  (∀ w : Window,
    (block w).text = (windowResult w).text ∧ (block w).text.toList.length ≤ 15 ∧ (block w).mode.toNat ≤ 12 ∧
    (w.avail.val = 0 →
      block w = { status := 3#2, opcode := 0x00#8, mnem := 0x000000#24, mode := 0#4, needed := 0#2, nops := 0#2
                  op1 := 0x00#8, op2 := 0x00#8, length := 0#2, text := "" }) ∧
    (w.avail.val ≠ 0 → TABLE w.w0 = none →
      block w = { status := 1#2, opcode := w.w0, mnem := 0x3F3F3F#24, mode := 0#4, needed := 0#2, nops := 0#2
                  op1 := 0x00#8, op2 := 0x00#8, length := 1#2, text := "???" }) ∧
    (∀ e : TableEntry, w.avail.val ≠ 0 → TABLE w.w0 = some e →
      let n := opCount e.mode
      let k := min n (w.avail.val - 1)
      (block w).status = (if k = n then 0#2 else 2#2) ∧ (block w).opcode = w.w0 ∧
      (block w).mnem = mnemonicBits e.mnemonic ∧ (block w).mode = modeCode e.mode ∧
      (block w).needed.toNat = n ∧ (block w).nops.toNat = k ∧ (block w).length.toNat = 1 + k ∧
      (block w).op1 = (if 1 ≤ k then w.w1 else 0x00#8) ∧ (block w).op2 = (if k = 2 then w.w2 else 0x00#8)) ∧
    (1 ≤ (block w).nops.toNat → (block w).op1 = w.w1) ∧ ((block w).nops = 2#2 → (block w).op2 = w.w2) ∧
    ((block w).nops = 0#2 → (block w).op1 = 0x00#8) ∧ ((block w).nops ≠ 2#2 → (block w).op2 = 0x00#8)) ∧
  (∀ m : Mnemonic, ∃ a b c : Char, m.text.toList = [a, b, c] ∧
    (mnemonicBits m).extractLsb' 16 8 = BitVec.ofNat 8 a.toNat ∧
    (mnemonicBits m).extractLsb' 8 8 = BitVec.ofNat 8 b.toNat ∧
    (mnemonicBits m).extractLsb' 0 8 = BitVec.ofNat 8 c.toNat) ∧
  mnemonicBits .lda = 0x4C4441#24 ∧
  (∀ m m' : Mnemonic, mnemonicBits m = mnemonicBits m' → m = m') ∧
  Status.ok.code = 0#2 ∧ Status.undefined.code = 1#2 ∧ Status.truncated.code = 2#2 ∧ Status.invalid.code = 3#2 ∧
  modeCode .implicit = 0#4 ∧ modeCode .accumulator = 1#4 ∧ modeCode .immediate = 2#4 ∧ modeCode .zeroPage = 3#4 ∧
  modeCode .zeroPageX = 4#4 ∧ modeCode .zeroPageY = 5#4 ∧ modeCode .relative = 6#4 ∧ modeCode .absolute = 7#4 ∧
  modeCode .absoluteX = 8#4 ∧ modeCode .absoluteY = 9#4 ∧ modeCode .indirect = 10#4 ∧ modeCode .indirectX = 11#4 ∧
  modeCode .indirectY = 12#4

/-! The machine. -/

/-- 10_state.md R24, 70_reset_and_hazards.md R137 (nothing in the block to reset), 40_decode_and_format.md R58 (`off` and
`lines`); the empty buffer and the absent record are the model's choice (log 3, log 4). -/
def Obligations.ResetState : Prop :=
  State.reset.off = 0 ∧ State.reset.lines = [] ∧ State.reset.buf.len = 0 ∧ State.reset.result = none ∧
  (∀ a, State.reset.buf.read a = none)

/-- The invariant holds at reset (the reset values are the model's choice where log 4 says so). -/
def Obligations.InvariantAtReset : Prop := State.reset.Inv

/-- Every step keeps the invariant: the buffer's canonical form, the cursor inside the buffer or at its end
(40_decode_and_format.md R60), lines of at most 15 characters and one line feed (R57, 10_state.md R21), and a latest record
that meets 10_state.md R20 and is what the last line renders. -/
def Obligations.StepKeepsInvariant : Prop :=
  ∀ s t : State, s.Inv → step s = .next t → t.Inv

/-- 40_decode_and_format.md R58, R60 (derived in the spec): a scan of any byte sequence ends, after at most one call a byte,
at the end of the buffer, with one line for each record, and leaves the buffer as it was. -/
def Obligations.ScanEndsAtBufferEnd : Prop :=
  ∀ bytes : List Byte,
    ∃ t, scan bytes = .next t ∧ t.off = bytes.length ∧ t.buf = Memory.ofBytes bytes ∧
      t.lines = (records bytes).map (fun r => r.text ++ "\n") ∧
      (records bytes).length ≤ bytes.length ∧ ∀ r ∈ records bytes, r ≠ .invalid

/-- 40_decode_and_format.md R60 (derived in the spec): every byte of the buffer belongs to exactly one record of the scan:
the records' opcode and operand bytes, in stream order, are the buffer, and their lengths sum to its length. -/
def Obligations.EveryByteInOneRecord : Prop :=
  ∀ bytes : List Byte,
    (records bytes).flatMap Result.consumed = bytes ∧ ((records bytes).map Result.length).sum = bytes.length

/-- 40_decode_and_format.md R62 (with decision D17, log 8): whatever bound `n` the buffer respects (`BUF_LEN_MAX` is open), no
index a call forms passes `n + 2`, no byte is read at or past `n`, and the cursor does not pass `n`. -/
def Obligations.IndexArithmeticBound : Prop :=
  ∀ (buf : Memory) (off n : Nat), buf.len ≤ n → off < buf.len →
    (∀ a ∈ callReads buf off, a < n) ∧
    (∀ j, j < neededBy (buf.byteAt off) → off + 1 + j ≤ n + 2) ∧
    off + (decodeCall buf off).length ≤ n

/-- A table word laid at the cursor is what the next step runs, in every state. Three bytes are laid there: the word's, first
byte in its low bits, and zeros after it; the buffer grows only where it ends before them, and nothing else of the state
changes. How a program comes to be in the buffer is the model's choice (log 4). -/
def Obligations.TableWordRuns : Prop :=
  ∀ (s : State) (nbits w : Nat) (i : Instr), decodeTableWord nbits w = some i →
    step (s.withFetchWord nbits w) = exec i (s.withFetchWord nbits w) ∧
    (∃ t, step (s.withFetchWord nbits w) = .next t ∧ t.off = s.off + (encode i).length) ∧
    (s.withFetchWord nbits w).off = s.off ∧ (s.withFetchWord nbits w).lines = s.lines ∧
    (s.withFetchWord nbits w).result = s.result ∧
    (s.withFetchWord nbits w).buf.len = max s.buf.len (s.off + 3) ∧
    (s.withFetchWord nbits w).buf.byteAt s.off = BitVec.ofNat 8 (w % 2 ^ nbits) ∧
    (s.withFetchWord nbits w).buf.byteAt (s.off + 1) = BitVec.ofNat 8 (w % 2 ^ nbits / 256) ∧
    (s.withFetchWord nbits w).buf.byteAt (s.off + 2) = BitVec.ofNat 8 (w % 2 ^ nbits / 65536) ∧
    (∀ a, a < s.off ∨ s.off + 3 ≤ a → (s.withFetchWord nbits w).buf.byteAt a = s.buf.byteAt a)
end

