-- ==== Sys2Proof/Laws/State.lean ====
section
/-! SUPPORT. One lemma per field for each update of State, and the fields of the reset state. -/

namespace Sys2Proof.Machine

@[simp] theorem State.deliver_buf (s : State) (r : Result) : (s.deliver r).buf = s.buf := rfl
@[simp] theorem State.deliver_off (s : State) (r : Result) : (s.deliver r).off = s.off + r.length := rfl
@[simp] theorem State.deliver_lines (s : State) (r : Result) : (s.deliver r).lines = s.lines ++ [r.text ++ "\n"] := rfl
@[simp] theorem State.deliver_result (s : State) (r : Result) : (s.deliver r).result = some r := rfl

@[simp] theorem State.placeBytes_buf (s : State) (bs : List Byte) : (s.placeBytes bs).buf = s.buf.putAll s.off bs := rfl
@[simp] theorem State.placeBytes_off (s : State) (bs : List Byte) : (s.placeBytes bs).off = s.off := rfl
@[simp] theorem State.placeBytes_lines (s : State) (bs : List Byte) : (s.placeBytes bs).lines = s.lines := rfl
@[simp] theorem State.placeBytes_result (s : State) (bs : List Byte) : (s.placeBytes bs).result = s.result := rfl

@[simp] theorem State.reset_buf : State.reset.buf = Memory.empty := rfl
@[simp] theorem State.reset_off : State.reset.off = 0 := rfl
@[simp] theorem State.reset_lines : State.reset.lines = [] := rfl
@[simp] theorem State.reset_result : State.reset.result = none := rfl

end Sys2Proof.Machine
end

