-- ==== Sys2Proof/Laws/Ops.lean ====
section
/-! SUPPORT. What each shared operation can do, said once. -/

namespace Sys2Proof.Machine

/-- A call that ends in a next state delivered its result, which was not `Invalid`. -/
theorem conclude_eq_next {r : Result} {s t : State} :
    conclude r s = .next t ↔ r ≠ .invalid ∧ t = s.deliver r := by
  cases r <;> simp [conclude, eq_comm]

theorem conclude_eq_fault {r : Result} {s : State} {f : Fault} :
    conclude r s = .fault f ↔ r = .invalid := by
  cases f
  cases r <;> simp [conclude]

theorem conclude_ne_refused (r : Result) (s : State) (x : Refusal) : conclude r s ≠ .refused x := by
  cases r <;> simp [conclude]

theorem conclude_of_ne {r : Result} (h : r ≠ .invalid) (s : State) : conclude r s = .next (s.deliver r) :=
  conclude_eq_next.2 ⟨h, rfl⟩

/-- A defined opcode whose operand bytes all lie inside the buffer. -/
theorem definedResult_ok {mode : AddressingMode} {ops : List Byte} {len off : Nat} (op : Byte) (m : Mnemonic)
    (hn : ops.length = opCount mode) (h : off + (1 + ops.length) ≤ len) :
    definedResult op m mode ops len off =
      .ok { opcode := op, mnemonic := m, mode := mode, needed := ops.length, operands := ops
            length := 1 + ops.length } := by
  have hk : min ops.length (len - off - 1) = ops.length := by omega
  simp only [definedResult, ← hn, hk, if_pos (show off < len by omega), Nat.lt_irrefl, if_false, List.take_length]

/-- A defined opcode whose operand bytes go past the end of the buffer. -/
theorem definedResult_truncated {mode : AddressingMode} {ops : List Byte} {len off : Nat} (op : Byte) (m : Mnemonic)
    (hn : ops.length = opCount mode) (h₁ : off < len) (h₂ : len < off + (1 + ops.length)) :
    definedResult op m mode ops len off =
      .truncated { opcode := op, mnemonic := m, mode := mode, needed := ops.length
                   operands := ops.take (len - off - 1), length := len - off } := by
  have hk : min ops.length (len - off - 1) = len - off - 1 := by omega
  have hl : 1 + (len - off - 1) = len - off := by omega
  simp only [definedResult, ← hn, hk, if_pos h₁, if_pos (show len - off - 1 < ops.length by omega), hl]

/-- A call with no opcode to read. -/
theorem definedResult_invalid {len off : Nat} (op : Byte) (m : Mnemonic) (mode : AddressingMode) (ops : List Byte)
    (h : len ≤ off) : definedResult op m mode ops len off = .invalid := if_neg (Nat.not_lt.2 h)

theorem definedResult_ne_invalid {len off : Nat} (op : Byte) (m : Mnemonic) (mode : AddressingMode) (ops : List Byte)
    (h : off < len) : definedResult op m mode ops len off ≠ .invalid := by
  simp only [definedResult, if_pos h]
  split <;> simp

/-- A defined call drops the operand bytes that lie outside the buffer: bytes that agree inside it give one result. -/
theorem definedResult_congr_take {len off : Nat} (op : Byte) (m : Mnemonic) (mode : AddressingMode) {ops ops' : List Byte}
    (h : ops.take (min (opCount mode) (len - off - 1)) = ops'.take (min (opCount mode) (len - off - 1))) :
    definedResult op m mode ops len off = definedResult op m mode ops' len off := by
  simp only [definedResult, h]

/-- Everything a defined call can do when it goes on. -/
theorem definedCall_next {op : Byte} {m : Mnemonic} {mode : AddressingMode} {ops : List Byte} {s t : State}
    (h : definedCall op m mode ops s = .next t) :
    s.off < s.buf.len ∧ t = s.deliver (definedResult op m mode ops s.buf.len s.off) := by
  obtain ⟨hr, rfl⟩ := conclude_eq_next.1 h
  refine ⟨Nat.lt_of_not_le fun hle => hr (definedResult_invalid op m mode ops hle), rfl⟩

/-- Everything an undefined call can do when it goes on. -/
theorem undefinedCall_next {op : Byte} {s t : State} (h : undefinedCall op s = .next t) :
    s.off < s.buf.len ∧ t = s.deliver (.undefined (undefinedRecord op)) := by
  by_cases hs : s.off < s.buf.len
  · simp only [undefinedCall, undefinedResult, if_pos hs] at h
    exact ⟨hs, (conclude_eq_next.1 h).2⟩
  · simp [undefinedCall, undefinedResult, hs, conclude] at h

/-- A defined call that goes on moves the cursor by at least one byte and never past the end of the buffer. -/
theorem definedResult_length {op : Byte} {m : Mnemonic} {mode : AddressingMode} {ops : List Byte} {len off : Nat}
    (h : off < len) :
    1 ≤ (definedResult op m mode ops len off).length ∧ off + (definedResult op m mode ops len off).length ≤ len := by
  simp only [definedResult, if_pos h]
  split <;> simp only [Result.length] <;> omega

end Sys2Proof.Machine
end

