-- ==== Sys2Proof/Laws/Step.lean ====
section
/-! SUPPORT. What running an opcode can do, said once for all 256 values: later proofs about the step cite this and unfold no
meaning. -/

namespace Sys2Proof.Machine

/-- A fact about every opcode value, from the 256 values. -/
theorem forall_opcode {P : Byte → Prop} (h : ∀ n, n < 256 → P (BitVec.ofNat 8 n)) : ∀ op, P op := fun op => by
  simpa using h op.toNat op.isLt

/-- The meaning of the instruction an opcode makes is the shared operation with the opcode's table entry. -/
theorem exec_instrOf : ∀ (op b0 b1 : Byte) (s : State),
    exec (instrOf op b0 b1) s =
      match TABLE op with
      | some e => definedCall op e.mnemonic e.mode ([b0, b1].take (opCount e.mode)) s
      | none => undefinedCall op s := by
  refine forall_opcode fun n hn => ?_
  interval_cases n <;> exact fun _ _ _ => rfl

/-- An opcode uses only the operand bytes its mode calls for. -/
theorem instrOf_congr : ∀ op b0 b1 c0 c1 : Byte,
    [b0, b1].take (neededBy op) = [c0, c1].take (neededBy op) → instrOf op b0 b1 = instrOf op c0 c1 := by
  refine forall_opcode fun n hn => ?_
  interval_cases n <;> intro b0 b1 c0 c1 h
  all_goals first
    | rfl
    | (cases (show [b0] = [c0] from h); rfl)
    | (cases (show [b0, b1] = [c0, c1] from h); rfl)

theorem fetch_of_validCall {s : State} (h : s.off < s.buf.len) :
    fetch s = some (instrOf (s.buf.byteAt s.off) (operandByte s.buf s.off 0) (operandByte s.buf s.off 1)) := if_pos h

theorem fetch_of_end {s : State} (h : s.buf.len ≤ s.off) : fetch s = none := if_neg (Nat.not_lt.2 h)

theorem step_of_validCall {s : State} (h : s.off < s.buf.len) :
    step s = exec (instrOf (s.buf.byteAt s.off) (operandByte s.buf s.off 0) (operandByte s.buf s.off 1)) s := by
  rw [step, fetch_of_validCall h]

theorem step_of_end {s : State} (h : s.buf.len ≤ s.off) : step s = .fault .invalidInput := by
  rw [step, fetch_of_end h]

/-- An operand byte the call reads is the buffer's. -/
theorem operandByte_read {buf : Memory} {off i : Nat} (h : i < operandsRead buf off) :
    operandByte buf off i = buf.byteAt (off + 1 + i) := if_pos h

end Sys2Proof.Machine
end

