-- ==== Sys2Proof/Laws/Decode.lean ====
section
/-! SUPPORT. What an opcode makes of its operand bytes: how many they are, the bytes it encodes to, and its length. -/

namespace Sys2Proof.Machine

theorem opCount_le (mode : AddressingMode) : opCount mode ≤ 2 := by cases mode <;> decide

theorem neededBy_of_table {op : Byte} {e : TableEntry} (h : TABLE op = some e) : neededBy op = opCount e.mode := by
  simp [neededBy, h]

theorem neededBy_of_undefined {op : Byte} (h : TABLE op = none) : neededBy op = 0 := by simp [neededBy, h]

theorem neededBy_le (op : Byte) : neededBy op ≤ 2 := by
  cases h : TABLE op with
  | none => simp [neededBy_of_undefined h]
  | some e => rw [neededBy_of_table h]; exact opCount_le e.mode

/-- The bytes of the instruction an opcode makes: the opcode and the operand bytes it calls for. -/
theorem encode_instrOf : ∀ op b0 b1 : Byte, encode (instrOf op b0 b1) = op :: [b0, b1].take (neededBy op) := by
  refine forall_opcode fun n hn => ?_
  interval_cases n <;> exact fun _ _ => rfl

theorem wf_instrOf (op b0 b1 : Byte) : (instrOf op b0 b1).wf = true := by
  have := neededBy_le op
  simp [Instr.wf, Instr.opcode, encode_instrOf, instructionLength]
  omega

end Sys2Proof.Machine
end

