-- ==== Sys2Proof/Laws/Memory.lean ====
section
/-! SUPPORT. The buffer: reading after the host has loaded or put bytes, and that both keep the canonical form. -/

namespace Sys2Proof.Machine

@[simp] theorem Memory.put_len (m : Memory) (a : Nat) (b : Byte) : (m.put a b).len = max m.len (a + 1) := rfl
@[simp] theorem Memory.ofBytes_len (bs : List Byte) : (Memory.ofBytes bs).len = bs.length := rfl
@[simp] theorem Memory.empty_len : Memory.empty.len = 0 := rfl

theorem Memory.read_eq_some {m : Memory} {a : Nat} (h : a < m.len) : m.read a = some (m.byteAt a) := if_pos h

theorem Memory.read_eq_none {m : Memory} {a : Nat} (h : m.len ≤ a) : m.read a = none := if_neg (Nat.not_lt.2 h)

theorem Memory.byteAt_eq_of_read_eq {m m' : Memory} {a : Nat} (h : m.read a = m'.read a) (ha : a < m.len)
    (ha' : a < m'.len) : m.byteAt a = m'.byteAt a := by
  rw [Memory.read_eq_some ha, Memory.read_eq_some ha'] at h
  exact Option.some.inj h

@[simp] theorem Memory.slice_length (m : Memory) (i j : Nat) : (m.slice i j).length = j - i := by
  simp [Memory.slice]

theorem Memory.slice_cons (m : Memory) {i j : Nat} (h : i < j) : m.slice i j = m.byteAt i :: m.slice (i + 1) j := by
  have hn : j - i = (j - (i + 1)) + 1 := by omega
  rw [Memory.slice, hn, List.range'_succ, List.map_cons, Memory.slice]

theorem Memory.slice_nil (m : Memory) {i j : Nat} (h : j ≤ i) : m.slice i j = [] := by
  simp [Memory.slice, Nat.sub_eq_zero_of_le h]

theorem Memory.slice_append (m : Memory) {i j k : Nat} (h₁ : i ≤ j) (h₂ : j ≤ k) :
    m.slice i j ++ m.slice j k = m.slice i k := by
  have hk : k - i = (j - i) + (k - j) := by omega
  have hj : j = i + 1 * (j - i) := by omega
  unfold Memory.slice
  rw [← List.map_append, hk, ← List.range'_append (step := 1), ← hj]

theorem Memory.getElem_slice (m : Memory) {i j n : Nat} (h : n < (m.slice i j).length) :
    (m.slice i j)[n] = m.byteAt (i + n) := by
  simp [Memory.slice]

/-! Putting one pair. -/

theorem Memory.lookup_insertCell_self (a : Nat) (b : Byte) (t : List Host.Cell) (h : ∀ c ∈ t, c.1 ≠ a) :
    Memory.lookup a (Memory.insertCell a b t) = b := by
  induction t with
  | nil => simp [Memory.insertCell, Memory.lookup]
  | cons c t ih =>
    have hc : c.1 ≠ a := h c (by simp)
    simp only [Memory.insertCell]
    split
    · simp [Memory.lookup]
    · simp [Memory.lookup, hc, ih (fun c hc => h c (by simp [hc]))]

theorem Memory.lookup_insertCell_other {a x : Nat} (b : Byte) (t : List Host.Cell) (h : x ≠ a) :
    Memory.lookup x (Memory.insertCell a b t) = Memory.lookup x t := by
  induction t with
  | nil => simp [Memory.insertCell, Memory.lookup, Ne.symm h]
  | cons c t ih =>
    simp only [Memory.insertCell]
    split
    · simp [Memory.lookup, Ne.symm h]
    · simp [Memory.lookup, ih]

theorem Memory.lookup_filter_self (a : Nat) (t : List Host.Cell) :
    Memory.lookup a (t.filter (fun c => c.1 ≠ a)) = Memory.unlisted := by
  induction t with
  | nil => rfl
  | cons c t ih =>
    by_cases hc : c.1 = a
    · simpa [hc] using ih
    · simpa [hc, Memory.lookup] using ih

theorem Memory.lookup_filter_other {a x : Nat} (t : List Host.Cell) (h : x ≠ a) :
    Memory.lookup x (t.filter (fun c => c.1 ≠ a)) = Memory.lookup x t := by
  induction t with
  | nil => rfl
  | cons c t ih =>
    by_cases hc : c.1 = a
    · have hx : c.1 ≠ x := by omega
      simpa [hc, Memory.lookup, Ne.symm h] using ih
    · simp only [ne_eq, decide_not] at ih
      simp [hc, Memory.lookup, ih]

/-- Read after put, at the same index. -/
@[simp] theorem Memory.byteAt_put_self (m : Memory) (a : Nat) (b : Byte) : (m.put a b).byteAt a = b := by
  simp only [Memory.byteAt, Memory.put, Memory.setCell]
  split
  · rename_i hb
    rw [hb, Memory.lookup_filter_self]
  · exact Memory.lookup_insertCell_self a b _ (fun c hc => by simpa using (List.mem_filter.1 hc).2)

/-- Read after put, at another index. -/
theorem Memory.byteAt_put_other (m : Memory) {a x : Nat} (b : Byte) (h : x ≠ a) : (m.put a b).byteAt x = m.byteAt x := by
  simp only [Memory.byteAt, Memory.put, Memory.setCell]
  split
  · exact Memory.lookup_filter_other _ h
  · rw [Memory.lookup_insertCell_other _ _ h, Memory.lookup_filter_other _ h]

/-! The canonical form. -/

theorem Memory.canonicalFrom_cons {lo hi x : Nat} {v : Byte} {t : List Host.Cell} :
    Memory.canonicalFrom lo hi ((x, v) :: t) = true ↔
      lo ≤ x ∧ x < hi ∧ v ≠ Memory.unlisted ∧ Memory.canonicalFrom (x + 1) hi t = true := by
  simp [Memory.canonicalFrom, and_assoc]

theorem Memory.canonicalFrom_mono {lo lo' hi hi' : Nat} {t : List Host.Cell} (hl : lo' ≤ lo) (hh : hi ≤ hi')
    (h : Memory.canonicalFrom lo hi t = true) : Memory.canonicalFrom lo' hi' t = true := by
  induction t generalizing lo lo' with
  | nil => rfl
  | cons c t ih =>
    obtain ⟨x, v⟩ := c
    rw [Memory.canonicalFrom_cons] at h ⊢
    exact ⟨by omega, by omega, h.2.2.1, ih (Nat.le_refl _) h.2.2.2⟩

theorem Memory.canonicalFrom_filter {lo hi a : Nat} {t : List Host.Cell} (h : Memory.canonicalFrom lo hi t = true) :
    Memory.canonicalFrom lo hi (t.filter (fun c => c.1 ≠ a)) = true := by
  induction t generalizing lo with
  | nil => rfl
  | cons c t ih =>
    obtain ⟨x, v⟩ := c
    rw [Memory.canonicalFrom_cons] at h
    have ih' := ih h.2.2.2
    by_cases hx : x = a
    · simpa [hx] using Memory.canonicalFrom_mono (by omega) (Nat.le_refl _) ih'
    · simp only [ne_eq, decide_not] at ih'
      simp only [ne_eq, decide_not, List.filter_cons, hx, decide_false, Bool.not_false, if_true]
      exact Memory.canonicalFrom_cons.2 ⟨h.1, h.2.1, h.2.2.1, ih'⟩

theorem Memory.canonicalFrom_insertCell {lo hi a : Nat} {b : Byte} {t : List Host.Cell} (ha : lo ≤ a) (hh : a < hi)
    (hb : b ≠ Memory.unlisted) (hne : ∀ c ∈ t, c.1 ≠ a) (h : Memory.canonicalFrom lo hi t = true) :
    Memory.canonicalFrom lo hi (Memory.insertCell a b t) = true := by
  induction t generalizing lo with
  | nil => exact Memory.canonicalFrom_cons.2 ⟨ha, hh, hb, rfl⟩
  | cons c t ih =>
    obtain ⟨x, v⟩ := c
    have hx : x ≠ a := hne (x, v) (by simp)
    rw [Memory.canonicalFrom_cons] at h
    simp only [Memory.insertCell]
    split
    · exact Memory.canonicalFrom_cons.2 ⟨ha, hh, hb, Memory.canonicalFrom_cons.2 ⟨by omega, h.2⟩⟩
    · exact Memory.canonicalFrom_cons.2 ⟨h.1, h.2.1, h.2.2.1,
        ih (by omega) (fun c hc => hne c (by simp [hc])) h.2.2.2⟩

/-- A put keeps the canonical form. -/
theorem Memory.put_wf {m : Memory} (h : m.wf = true) (a : Nat) (b : Byte) : (m.put a b).wf = true := by
  have hrest := Memory.canonicalFrom_filter (a := a) (Memory.canonicalFrom_mono (Nat.le_refl 0) (Nat.le_max_left m.len (a + 1)) h)
  simp only [Memory.wf, Memory.put, Memory.setCell]
  split
  · exact hrest
  · rename_i hb
    exact Memory.canonicalFrom_insertCell (Nat.zero_le a) (by omega) hb
      (fun c hc => by simpa using (List.mem_filter.1 hc).2) hrest

/-- Putting several bytes keeps the canonical form. -/
theorem Memory.putAll_wf {m : Memory} (h : m.wf = true) (a : Nat) (bs : List Byte) : (m.putAll a bs).wf = true := by
  induction bs generalizing m a with
  | nil => exact h
  | cons b bs ih => exact ih (Memory.put_wf h a b) (a + 1)

/-- The buffer never shrinks under the host's puts. -/
theorem Memory.len_le_putAll (m : Memory) (a : Nat) (bs : List Byte) : m.len ≤ (m.putAll a bs).len := by
  induction bs generalizing m a with
  | nil => exact Nat.le_refl _
  | cons b bs ih => exact Nat.le_trans (Nat.le_max_left _ _) (ih (m.put a b) (a + 1))

/-- Putting several bytes changes no byte before or after them. -/
theorem Memory.byteAt_putAll_other (m : Memory) {a x : Nat} (bs : List Byte) (h : x < a ∨ a + bs.length ≤ x) :
    (m.putAll a bs).byteAt x = m.byteAt x := by
  induction bs generalizing m a with
  | nil => rfl
  | cons b bs ih =>
    simp only [List.length_cons] at h
    rw [Memory.putAll, ih (m.put a b) (by omega), Memory.byteAt_put_other m b (by omega)]

/-! Loading a byte sequence. -/

theorem Memory.lookup_cellsFrom_lt {n x : Nat} (bs : List Byte) (h : x < n) :
    Memory.lookup x (Memory.cellsFrom n bs) = Memory.unlisted := by
  induction bs generalizing n with
  | nil => rfl
  | cons b bs ih =>
    simp only [Memory.cellsFrom]
    split
    · exact ih (by omega)
    · rw [Memory.lookup, if_neg (by omega)]
      exact ih (by omega)

theorem Memory.lookup_cellsFrom {n k : Nat} (bs : List Byte) (h : k < bs.length) :
    Memory.lookup (n + k) (Memory.cellsFrom n bs) = bs[k] := by
  induction bs generalizing n k with
  | nil => simp at h
  | cons b bs ih =>
    cases k with
    | zero =>
      simp only [Memory.cellsFrom, Nat.add_zero, List.getElem_cons_zero]
      split
      · rename_i hb
        rw [hb]
        exact Memory.lookup_cellsFrom_lt bs (Nat.lt_succ_self n)
      · simp [Memory.lookup]
    | succ k =>
      have ih' := ih (n := n + 1) (k := k) (by simpa using h)
      rw [show n + 1 + k = n + (k + 1) by omega] at ih'
      simp only [Memory.cellsFrom, List.getElem_cons_succ]
      split
      · exact ih'
      · rw [Memory.lookup, if_neg (by omega)]
        exact ih'

/-- A loaded buffer reads as the bytes that were loaded. -/
theorem Memory.byteAt_ofBytes {bs : List Byte} {a : Nat} (h : a < bs.length) : (Memory.ofBytes bs).byteAt a = bs[a] := by
  have := Memory.lookup_cellsFrom (n := 0) bs h
  simpa [Memory.byteAt, Memory.ofBytes] using this

theorem Memory.getElem_bytes (m : Memory) {n : Nat} (h : n < m.bytes.length) : m.bytes[n] = m.byteAt n := by
  simp [Memory.bytes, Memory.slice]

/-- `bytes` undoes `ofBytes`. -/
theorem Memory.bytes_ofBytes (bs : List Byte) : (Memory.ofBytes bs).bytes = bs := by
  apply List.ext_getElem
  · simp [Memory.bytes]
  · intro n h₁ h₂
    rw [Memory.getElem_bytes, Memory.byteAt_ofBytes h₂]

theorem Memory.cellsFrom_canonical (n : Nat) (bs : List Byte) :
    Memory.canonicalFrom n (n + bs.length) (Memory.cellsFrom n bs) = true := by
  induction bs generalizing n with
  | nil => rfl
  | cons b bs ih =>
    have ih' := ih (n + 1)
    rw [show n + 1 + bs.length = n + (b :: bs).length by simp only [List.length_cons]; omega] at ih'
    simp only [Memory.cellsFrom]
    split
    · exact Memory.canonicalFrom_mono (by omega) (Nat.le_refl _) ih'
    · rename_i hb
      exact Memory.canonicalFrom_cons.2 ⟨Nat.le_refl _, by simp only [List.length_cons]; omega, hb, ih'⟩

/-- A loaded buffer is in canonical form. -/
theorem Memory.ofBytes_wf (bs : List Byte) : (Memory.ofBytes bs).wf = true := by
  simpa [Memory.wf, Memory.ofBytes] using Memory.cellsFrom_canonical 0 bs

theorem Memory.empty_wf : Memory.empty.wf = true := rfl

end Sys2Proof.Machine
end

