-- ==== Sys2Proof/Laws/Call.lean ====
section
/-! SUPPORT. What one call of `decode` can return, one lemma per outcome (40_decode_and_format.md R49 to R52). -/

namespace Sys2Proof.Machine

theorem Memory.map_range_byteAt (m : Memory) (a k : Nat) :
    (List.range k).map (fun i => m.byteAt (a + i)) = m.slice a (a + k) := by
  simp [Memory.slice, List.range'_eq_map_range]

theorem decodeCall_invalid {buf : Memory} {off : Nat} (h : buf.len ≤ off) : decodeCall buf off = .invalid := by
  simp [decodeCall, h]

theorem decodeCall_undefined {buf : Memory} {off : Nat} (h : off < buf.len) (hT : TABLE (buf.byteAt off) = none) :
    decodeCall buf off = .undefined (undefinedRecord (buf.byteAt off)) := by
  have hv : ¬ (buf.len = 0 ∨ buf.len ≤ off) := by omega
  simp only [decodeCall, if_neg hv, hT]

theorem decodeCall_ok {buf : Memory} {off : Nat} {e : TableEntry} (hT : TABLE (buf.byteAt off) = some e)
    (h : off + 1 + opCount e.mode ≤ buf.len) :
    decodeCall buf off =
      .ok { opcode := buf.byteAt off, mnemonic := e.mnemonic, mode := e.mode, needed := opCount e.mode
            operands := buf.slice (off + 1) (off + 1 + opCount e.mode), length := 1 + opCount e.mode } := by
  have hv : ¬ (buf.len = 0 ∨ buf.len ≤ off) := by omega
  have hk : min (opCount e.mode) (buf.len - off - 1) = opCount e.mode := by omega
  simp only [decodeCall, if_neg hv, hT, hk, Nat.lt_irrefl, if_false, Memory.map_range_byteAt]

theorem decodeCall_truncated {buf : Memory} {off : Nat} {e : TableEntry} (hT : TABLE (buf.byteAt off) = some e)
    (h₁ : off < buf.len) (h₂ : buf.len < off + 1 + opCount e.mode) :
    decodeCall buf off =
      .truncated { opcode := buf.byteAt off, mnemonic := e.mnemonic, mode := e.mode, needed := opCount e.mode
                   operands := buf.slice (off + 1) buf.len, length := buf.len - off } := by
  have hv : ¬ (buf.len = 0 ∨ buf.len ≤ off) := by omega
  have hk : min (opCount e.mode) (buf.len - off - 1) = buf.len - off - 1 := by omega
  have hlt : buf.len - off - 1 < opCount e.mode := by omega
  have hend : off + 1 + (buf.len - off - 1) = buf.len := by omega
  have hlen : 1 + (buf.len - off - 1) = buf.len - off := by omega
  simp only [decodeCall, if_neg hv, hT, hk, hlt, if_true, Memory.map_range_byteAt, hend, hlen]

end Sys2Proof.Machine
end

