-- ==== Sys2Proof/Laws/PerInstr.lean ====
section
/-! SUPPORT. One family of statements about every instruction as syntax: `RowLayout`, that an instruction's bytes are laid
out as its table row says (30_encoding.md R38). -/

namespace Sys2Proof.Laws

/-- An instruction is well-formed once its opcode is named and its length is that opcode's. -/
theorem wf_of_opcode {i : Instr} (op : Byte) (n : Nat) (ho : i.opcode = op) (hl : (encode i).length = n)
    (hn : Machine.instructionLength op = n) : i.wf = true := by
  rw [Instr.wf, ho, hl, hn, beq_self_eq_true]

/-- The instruction is well-formed: its bytes are its opcode and the operand bytes its row's mode calls for. -/
def RowLayout.Statement (i : Instr) : Prop := i.wf = true

theorem RowLayout.ldaIndirectX (b : Byte) : RowLayout.Statement (.ldaIndirectX b) := wf_of_opcode 0xA1#8 2 rfl rfl (by decide)
theorem RowLayout.ldaZeroPage (b : Byte) : RowLayout.Statement (.ldaZeroPage b) := wf_of_opcode 0xA5#8 2 rfl rfl (by decide)
theorem RowLayout.ldaImmediate (b : Byte) : RowLayout.Statement (.ldaImmediate b) := wf_of_opcode 0xA9#8 2 rfl rfl (by decide)
theorem RowLayout.ldaAbsolute (l h : Byte) : RowLayout.Statement (.ldaAbsolute l h) := wf_of_opcode 0xAD#8 3 rfl rfl (by decide)
theorem RowLayout.ldaIndirectY (b : Byte) : RowLayout.Statement (.ldaIndirectY b) := wf_of_opcode 0xB1#8 2 rfl rfl (by decide)
theorem RowLayout.ldaZeroPageX (b : Byte) : RowLayout.Statement (.ldaZeroPageX b) := wf_of_opcode 0xB5#8 2 rfl rfl (by decide)
theorem RowLayout.ldaAbsoluteY (l h : Byte) : RowLayout.Statement (.ldaAbsoluteY l h) := wf_of_opcode 0xB9#8 3 rfl rfl (by decide)
theorem RowLayout.ldaAbsoluteX (l h : Byte) : RowLayout.Statement (.ldaAbsoluteX l h) := wf_of_opcode 0xBD#8 3 rfl rfl (by decide)
theorem RowLayout.ldxImmediate (b : Byte) : RowLayout.Statement (.ldxImmediate b) := wf_of_opcode 0xA2#8 2 rfl rfl (by decide)
theorem RowLayout.ldxZeroPage (b : Byte) : RowLayout.Statement (.ldxZeroPage b) := wf_of_opcode 0xA6#8 2 rfl rfl (by decide)
theorem RowLayout.ldxAbsolute (l h : Byte) : RowLayout.Statement (.ldxAbsolute l h) := wf_of_opcode 0xAE#8 3 rfl rfl (by decide)
theorem RowLayout.ldxZeroPageY (b : Byte) : RowLayout.Statement (.ldxZeroPageY b) := wf_of_opcode 0xB6#8 2 rfl rfl (by decide)
theorem RowLayout.ldxAbsoluteY (l h : Byte) : RowLayout.Statement (.ldxAbsoluteY l h) := wf_of_opcode 0xBE#8 3 rfl rfl (by decide)
theorem RowLayout.ldyImmediate (b : Byte) : RowLayout.Statement (.ldyImmediate b) := wf_of_opcode 0xA0#8 2 rfl rfl (by decide)
theorem RowLayout.ldyZeroPage (b : Byte) : RowLayout.Statement (.ldyZeroPage b) := wf_of_opcode 0xA4#8 2 rfl rfl (by decide)
theorem RowLayout.ldyAbsolute (l h : Byte) : RowLayout.Statement (.ldyAbsolute l h) := wf_of_opcode 0xAC#8 3 rfl rfl (by decide)
theorem RowLayout.ldyZeroPageX (b : Byte) : RowLayout.Statement (.ldyZeroPageX b) := wf_of_opcode 0xB4#8 2 rfl rfl (by decide)
theorem RowLayout.ldyAbsoluteX (l h : Byte) : RowLayout.Statement (.ldyAbsoluteX l h) := wf_of_opcode 0xBC#8 3 rfl rfl (by decide)
theorem RowLayout.staIndirectX (b : Byte) : RowLayout.Statement (.staIndirectX b) := wf_of_opcode 0x81#8 2 rfl rfl (by decide)
theorem RowLayout.staZeroPage (b : Byte) : RowLayout.Statement (.staZeroPage b) := wf_of_opcode 0x85#8 2 rfl rfl (by decide)
theorem RowLayout.staAbsolute (l h : Byte) : RowLayout.Statement (.staAbsolute l h) := wf_of_opcode 0x8D#8 3 rfl rfl (by decide)
theorem RowLayout.staIndirectY (b : Byte) : RowLayout.Statement (.staIndirectY b) := wf_of_opcode 0x91#8 2 rfl rfl (by decide)
theorem RowLayout.staZeroPageX (b : Byte) : RowLayout.Statement (.staZeroPageX b) := wf_of_opcode 0x95#8 2 rfl rfl (by decide)
theorem RowLayout.staAbsoluteY (l h : Byte) : RowLayout.Statement (.staAbsoluteY l h) := wf_of_opcode 0x99#8 3 rfl rfl (by decide)
theorem RowLayout.staAbsoluteX (l h : Byte) : RowLayout.Statement (.staAbsoluteX l h) := wf_of_opcode 0x9D#8 3 rfl rfl (by decide)
theorem RowLayout.stxZeroPage (b : Byte) : RowLayout.Statement (.stxZeroPage b) := wf_of_opcode 0x86#8 2 rfl rfl (by decide)
theorem RowLayout.stxAbsolute (l h : Byte) : RowLayout.Statement (.stxAbsolute l h) := wf_of_opcode 0x8E#8 3 rfl rfl (by decide)
theorem RowLayout.stxZeroPageY (b : Byte) : RowLayout.Statement (.stxZeroPageY b) := wf_of_opcode 0x96#8 2 rfl rfl (by decide)
theorem RowLayout.styZeroPage (b : Byte) : RowLayout.Statement (.styZeroPage b) := wf_of_opcode 0x84#8 2 rfl rfl (by decide)
theorem RowLayout.styAbsolute (l h : Byte) : RowLayout.Statement (.styAbsolute l h) := wf_of_opcode 0x8C#8 3 rfl rfl (by decide)
theorem RowLayout.styZeroPageX (b : Byte) : RowLayout.Statement (.styZeroPageX b) := wf_of_opcode 0x94#8 2 rfl rfl (by decide)
theorem RowLayout.adcIndirectX (b : Byte) : RowLayout.Statement (.adcIndirectX b) := wf_of_opcode 0x61#8 2 rfl rfl (by decide)
theorem RowLayout.adcZeroPage (b : Byte) : RowLayout.Statement (.adcZeroPage b) := wf_of_opcode 0x65#8 2 rfl rfl (by decide)
theorem RowLayout.adcImmediate (b : Byte) : RowLayout.Statement (.adcImmediate b) := wf_of_opcode 0x69#8 2 rfl rfl (by decide)
theorem RowLayout.adcAbsolute (l h : Byte) : RowLayout.Statement (.adcAbsolute l h) := wf_of_opcode 0x6D#8 3 rfl rfl (by decide)
theorem RowLayout.adcIndirectY (b : Byte) : RowLayout.Statement (.adcIndirectY b) := wf_of_opcode 0x71#8 2 rfl rfl (by decide)
theorem RowLayout.adcZeroPageX (b : Byte) : RowLayout.Statement (.adcZeroPageX b) := wf_of_opcode 0x75#8 2 rfl rfl (by decide)
theorem RowLayout.adcAbsoluteY (l h : Byte) : RowLayout.Statement (.adcAbsoluteY l h) := wf_of_opcode 0x79#8 3 rfl rfl (by decide)
theorem RowLayout.adcAbsoluteX (l h : Byte) : RowLayout.Statement (.adcAbsoluteX l h) := wf_of_opcode 0x7D#8 3 rfl rfl (by decide)
theorem RowLayout.sbcIndirectX (b : Byte) : RowLayout.Statement (.sbcIndirectX b) := wf_of_opcode 0xE1#8 2 rfl rfl (by decide)
theorem RowLayout.sbcZeroPage (b : Byte) : RowLayout.Statement (.sbcZeroPage b) := wf_of_opcode 0xE5#8 2 rfl rfl (by decide)
theorem RowLayout.sbcImmediate (b : Byte) : RowLayout.Statement (.sbcImmediate b) := wf_of_opcode 0xE9#8 2 rfl rfl (by decide)
theorem RowLayout.sbcAbsolute (l h : Byte) : RowLayout.Statement (.sbcAbsolute l h) := wf_of_opcode 0xED#8 3 rfl rfl (by decide)
theorem RowLayout.sbcIndirectY (b : Byte) : RowLayout.Statement (.sbcIndirectY b) := wf_of_opcode 0xF1#8 2 rfl rfl (by decide)
theorem RowLayout.sbcZeroPageX (b : Byte) : RowLayout.Statement (.sbcZeroPageX b) := wf_of_opcode 0xF5#8 2 rfl rfl (by decide)
theorem RowLayout.sbcAbsoluteY (l h : Byte) : RowLayout.Statement (.sbcAbsoluteY l h) := wf_of_opcode 0xF9#8 3 rfl rfl (by decide)
theorem RowLayout.sbcAbsoluteX (l h : Byte) : RowLayout.Statement (.sbcAbsoluteX l h) := wf_of_opcode 0xFD#8 3 rfl rfl (by decide)
theorem RowLayout.andIndirectX (b : Byte) : RowLayout.Statement (.andIndirectX b) := wf_of_opcode 0x21#8 2 rfl rfl (by decide)
theorem RowLayout.andZeroPage (b : Byte) : RowLayout.Statement (.andZeroPage b) := wf_of_opcode 0x25#8 2 rfl rfl (by decide)
theorem RowLayout.andImmediate (b : Byte) : RowLayout.Statement (.andImmediate b) := wf_of_opcode 0x29#8 2 rfl rfl (by decide)
theorem RowLayout.andAbsolute (l h : Byte) : RowLayout.Statement (.andAbsolute l h) := wf_of_opcode 0x2D#8 3 rfl rfl (by decide)
theorem RowLayout.andIndirectY (b : Byte) : RowLayout.Statement (.andIndirectY b) := wf_of_opcode 0x31#8 2 rfl rfl (by decide)
theorem RowLayout.andZeroPageX (b : Byte) : RowLayout.Statement (.andZeroPageX b) := wf_of_opcode 0x35#8 2 rfl rfl (by decide)
theorem RowLayout.andAbsoluteY (l h : Byte) : RowLayout.Statement (.andAbsoluteY l h) := wf_of_opcode 0x39#8 3 rfl rfl (by decide)
theorem RowLayout.andAbsoluteX (l h : Byte) : RowLayout.Statement (.andAbsoluteX l h) := wf_of_opcode 0x3D#8 3 rfl rfl (by decide)
theorem RowLayout.oraIndirectX (b : Byte) : RowLayout.Statement (.oraIndirectX b) := wf_of_opcode 0x01#8 2 rfl rfl (by decide)
theorem RowLayout.oraZeroPage (b : Byte) : RowLayout.Statement (.oraZeroPage b) := wf_of_opcode 0x05#8 2 rfl rfl (by decide)
theorem RowLayout.oraImmediate (b : Byte) : RowLayout.Statement (.oraImmediate b) := wf_of_opcode 0x09#8 2 rfl rfl (by decide)
theorem RowLayout.oraAbsolute (l h : Byte) : RowLayout.Statement (.oraAbsolute l h) := wf_of_opcode 0x0D#8 3 rfl rfl (by decide)
theorem RowLayout.oraIndirectY (b : Byte) : RowLayout.Statement (.oraIndirectY b) := wf_of_opcode 0x11#8 2 rfl rfl (by decide)
theorem RowLayout.oraZeroPageX (b : Byte) : RowLayout.Statement (.oraZeroPageX b) := wf_of_opcode 0x15#8 2 rfl rfl (by decide)
theorem RowLayout.oraAbsoluteY (l h : Byte) : RowLayout.Statement (.oraAbsoluteY l h) := wf_of_opcode 0x19#8 3 rfl rfl (by decide)
theorem RowLayout.oraAbsoluteX (l h : Byte) : RowLayout.Statement (.oraAbsoluteX l h) := wf_of_opcode 0x1D#8 3 rfl rfl (by decide)
theorem RowLayout.eorIndirectX (b : Byte) : RowLayout.Statement (.eorIndirectX b) := wf_of_opcode 0x41#8 2 rfl rfl (by decide)
theorem RowLayout.eorZeroPage (b : Byte) : RowLayout.Statement (.eorZeroPage b) := wf_of_opcode 0x45#8 2 rfl rfl (by decide)
theorem RowLayout.eorImmediate (b : Byte) : RowLayout.Statement (.eorImmediate b) := wf_of_opcode 0x49#8 2 rfl rfl (by decide)
theorem RowLayout.eorAbsolute (l h : Byte) : RowLayout.Statement (.eorAbsolute l h) := wf_of_opcode 0x4D#8 3 rfl rfl (by decide)
theorem RowLayout.eorIndirectY (b : Byte) : RowLayout.Statement (.eorIndirectY b) := wf_of_opcode 0x51#8 2 rfl rfl (by decide)
theorem RowLayout.eorZeroPageX (b : Byte) : RowLayout.Statement (.eorZeroPageX b) := wf_of_opcode 0x55#8 2 rfl rfl (by decide)
theorem RowLayout.eorAbsoluteY (l h : Byte) : RowLayout.Statement (.eorAbsoluteY l h) := wf_of_opcode 0x59#8 3 rfl rfl (by decide)
theorem RowLayout.eorAbsoluteX (l h : Byte) : RowLayout.Statement (.eorAbsoluteX l h) := wf_of_opcode 0x5D#8 3 rfl rfl (by decide)
theorem RowLayout.cmpIndirectX (b : Byte) : RowLayout.Statement (.cmpIndirectX b) := wf_of_opcode 0xC1#8 2 rfl rfl (by decide)
theorem RowLayout.cmpZeroPage (b : Byte) : RowLayout.Statement (.cmpZeroPage b) := wf_of_opcode 0xC5#8 2 rfl rfl (by decide)
theorem RowLayout.cmpImmediate (b : Byte) : RowLayout.Statement (.cmpImmediate b) := wf_of_opcode 0xC9#8 2 rfl rfl (by decide)
theorem RowLayout.cmpAbsolute (l h : Byte) : RowLayout.Statement (.cmpAbsolute l h) := wf_of_opcode 0xCD#8 3 rfl rfl (by decide)
theorem RowLayout.cmpIndirectY (b : Byte) : RowLayout.Statement (.cmpIndirectY b) := wf_of_opcode 0xD1#8 2 rfl rfl (by decide)
theorem RowLayout.cmpZeroPageX (b : Byte) : RowLayout.Statement (.cmpZeroPageX b) := wf_of_opcode 0xD5#8 2 rfl rfl (by decide)
theorem RowLayout.cmpAbsoluteY (l h : Byte) : RowLayout.Statement (.cmpAbsoluteY l h) := wf_of_opcode 0xD9#8 3 rfl rfl (by decide)
theorem RowLayout.cmpAbsoluteX (l h : Byte) : RowLayout.Statement (.cmpAbsoluteX l h) := wf_of_opcode 0xDD#8 3 rfl rfl (by decide)
theorem RowLayout.cpxImmediate (b : Byte) : RowLayout.Statement (.cpxImmediate b) := wf_of_opcode 0xE0#8 2 rfl rfl (by decide)
theorem RowLayout.cpxZeroPage (b : Byte) : RowLayout.Statement (.cpxZeroPage b) := wf_of_opcode 0xE4#8 2 rfl rfl (by decide)
theorem RowLayout.cpxAbsolute (l h : Byte) : RowLayout.Statement (.cpxAbsolute l h) := wf_of_opcode 0xEC#8 3 rfl rfl (by decide)
theorem RowLayout.cpyImmediate (b : Byte) : RowLayout.Statement (.cpyImmediate b) := wf_of_opcode 0xC0#8 2 rfl rfl (by decide)
theorem RowLayout.cpyZeroPage (b : Byte) : RowLayout.Statement (.cpyZeroPage b) := wf_of_opcode 0xC4#8 2 rfl rfl (by decide)
theorem RowLayout.cpyAbsolute (l h : Byte) : RowLayout.Statement (.cpyAbsolute l h) := wf_of_opcode 0xCC#8 3 rfl rfl (by decide)
theorem RowLayout.bitZeroPage (b : Byte) : RowLayout.Statement (.bitZeroPage b) := wf_of_opcode 0x24#8 2 rfl rfl (by decide)
theorem RowLayout.bitAbsolute (l h : Byte) : RowLayout.Statement (.bitAbsolute l h) := wf_of_opcode 0x2C#8 3 rfl rfl (by decide)
theorem RowLayout.aslZeroPage (b : Byte) : RowLayout.Statement (.aslZeroPage b) := wf_of_opcode 0x06#8 2 rfl rfl (by decide)
theorem RowLayout.aslAccumulator : RowLayout.Statement .aslAccumulator := wf_of_opcode 0x0A#8 1 rfl rfl (by decide)
theorem RowLayout.aslAbsolute (l h : Byte) : RowLayout.Statement (.aslAbsolute l h) := wf_of_opcode 0x0E#8 3 rfl rfl (by decide)
theorem RowLayout.aslZeroPageX (b : Byte) : RowLayout.Statement (.aslZeroPageX b) := wf_of_opcode 0x16#8 2 rfl rfl (by decide)
theorem RowLayout.aslAbsoluteX (l h : Byte) : RowLayout.Statement (.aslAbsoluteX l h) := wf_of_opcode 0x1E#8 3 rfl rfl (by decide)
theorem RowLayout.lsrZeroPage (b : Byte) : RowLayout.Statement (.lsrZeroPage b) := wf_of_opcode 0x46#8 2 rfl rfl (by decide)
theorem RowLayout.lsrAccumulator : RowLayout.Statement .lsrAccumulator := wf_of_opcode 0x4A#8 1 rfl rfl (by decide)
theorem RowLayout.lsrAbsolute (l h : Byte) : RowLayout.Statement (.lsrAbsolute l h) := wf_of_opcode 0x4E#8 3 rfl rfl (by decide)
theorem RowLayout.lsrZeroPageX (b : Byte) : RowLayout.Statement (.lsrZeroPageX b) := wf_of_opcode 0x56#8 2 rfl rfl (by decide)
theorem RowLayout.lsrAbsoluteX (l h : Byte) : RowLayout.Statement (.lsrAbsoluteX l h) := wf_of_opcode 0x5E#8 3 rfl rfl (by decide)
theorem RowLayout.rolZeroPage (b : Byte) : RowLayout.Statement (.rolZeroPage b) := wf_of_opcode 0x26#8 2 rfl rfl (by decide)
theorem RowLayout.rolAccumulator : RowLayout.Statement .rolAccumulator := wf_of_opcode 0x2A#8 1 rfl rfl (by decide)
theorem RowLayout.rolAbsolute (l h : Byte) : RowLayout.Statement (.rolAbsolute l h) := wf_of_opcode 0x2E#8 3 rfl rfl (by decide)
theorem RowLayout.rolZeroPageX (b : Byte) : RowLayout.Statement (.rolZeroPageX b) := wf_of_opcode 0x36#8 2 rfl rfl (by decide)
theorem RowLayout.rolAbsoluteX (l h : Byte) : RowLayout.Statement (.rolAbsoluteX l h) := wf_of_opcode 0x3E#8 3 rfl rfl (by decide)
theorem RowLayout.rorZeroPage (b : Byte) : RowLayout.Statement (.rorZeroPage b) := wf_of_opcode 0x66#8 2 rfl rfl (by decide)
theorem RowLayout.rorAccumulator : RowLayout.Statement .rorAccumulator := wf_of_opcode 0x6A#8 1 rfl rfl (by decide)
theorem RowLayout.rorAbsolute (l h : Byte) : RowLayout.Statement (.rorAbsolute l h) := wf_of_opcode 0x6E#8 3 rfl rfl (by decide)
theorem RowLayout.rorZeroPageX (b : Byte) : RowLayout.Statement (.rorZeroPageX b) := wf_of_opcode 0x76#8 2 rfl rfl (by decide)
theorem RowLayout.rorAbsoluteX (l h : Byte) : RowLayout.Statement (.rorAbsoluteX l h) := wf_of_opcode 0x7E#8 3 rfl rfl (by decide)
theorem RowLayout.incZeroPage (b : Byte) : RowLayout.Statement (.incZeroPage b) := wf_of_opcode 0xE6#8 2 rfl rfl (by decide)
theorem RowLayout.incAbsolute (l h : Byte) : RowLayout.Statement (.incAbsolute l h) := wf_of_opcode 0xEE#8 3 rfl rfl (by decide)
theorem RowLayout.incZeroPageX (b : Byte) : RowLayout.Statement (.incZeroPageX b) := wf_of_opcode 0xF6#8 2 rfl rfl (by decide)
theorem RowLayout.incAbsoluteX (l h : Byte) : RowLayout.Statement (.incAbsoluteX l h) := wf_of_opcode 0xFE#8 3 rfl rfl (by decide)
theorem RowLayout.decZeroPage (b : Byte) : RowLayout.Statement (.decZeroPage b) := wf_of_opcode 0xC6#8 2 rfl rfl (by decide)
theorem RowLayout.decAbsolute (l h : Byte) : RowLayout.Statement (.decAbsolute l h) := wf_of_opcode 0xCE#8 3 rfl rfl (by decide)
theorem RowLayout.decZeroPageX (b : Byte) : RowLayout.Statement (.decZeroPageX b) := wf_of_opcode 0xD6#8 2 rfl rfl (by decide)
theorem RowLayout.decAbsoluteX (l h : Byte) : RowLayout.Statement (.decAbsoluteX l h) := wf_of_opcode 0xDE#8 3 rfl rfl (by decide)
theorem RowLayout.tax : RowLayout.Statement .tax := wf_of_opcode 0xAA#8 1 rfl rfl (by decide)
theorem RowLayout.tay : RowLayout.Statement .tay := wf_of_opcode 0xA8#8 1 rfl rfl (by decide)
theorem RowLayout.tsx : RowLayout.Statement .tsx := wf_of_opcode 0xBA#8 1 rfl rfl (by decide)
theorem RowLayout.txa : RowLayout.Statement .txa := wf_of_opcode 0x8A#8 1 rfl rfl (by decide)
theorem RowLayout.txs : RowLayout.Statement .txs := wf_of_opcode 0x9A#8 1 rfl rfl (by decide)
theorem RowLayout.tya : RowLayout.Statement .tya := wf_of_opcode 0x98#8 1 rfl rfl (by decide)
theorem RowLayout.inx : RowLayout.Statement .inx := wf_of_opcode 0xE8#8 1 rfl rfl (by decide)
theorem RowLayout.iny : RowLayout.Statement .iny := wf_of_opcode 0xC8#8 1 rfl rfl (by decide)
theorem RowLayout.dex : RowLayout.Statement .dex := wf_of_opcode 0xCA#8 1 rfl rfl (by decide)
theorem RowLayout.dey : RowLayout.Statement .dey := wf_of_opcode 0x88#8 1 rfl rfl (by decide)
theorem RowLayout.pha : RowLayout.Statement .pha := wf_of_opcode 0x48#8 1 rfl rfl (by decide)
theorem RowLayout.php : RowLayout.Statement .php := wf_of_opcode 0x08#8 1 rfl rfl (by decide)
theorem RowLayout.pla : RowLayout.Statement .pla := wf_of_opcode 0x68#8 1 rfl rfl (by decide)
theorem RowLayout.plp : RowLayout.Statement .plp := wf_of_opcode 0x28#8 1 rfl rfl (by decide)
theorem RowLayout.jmpAbsolute (l h : Byte) : RowLayout.Statement (.jmpAbsolute l h) := wf_of_opcode 0x4C#8 3 rfl rfl (by decide)
theorem RowLayout.jmpIndirect (l h : Byte) : RowLayout.Statement (.jmpIndirect l h) := wf_of_opcode 0x6C#8 3 rfl rfl (by decide)
theorem RowLayout.jsr (l h : Byte) : RowLayout.Statement (.jsr l h) := wf_of_opcode 0x20#8 3 rfl rfl (by decide)
theorem RowLayout.rts : RowLayout.Statement .rts := wf_of_opcode 0x60#8 1 rfl rfl (by decide)
theorem RowLayout.rti : RowLayout.Statement .rti := wf_of_opcode 0x40#8 1 rfl rfl (by decide)
theorem RowLayout.brk : RowLayout.Statement .brk := wf_of_opcode 0x00#8 1 rfl rfl (by decide)
theorem RowLayout.bpl (b : Byte) : RowLayout.Statement (.bpl b) := wf_of_opcode 0x10#8 2 rfl rfl (by decide)
theorem RowLayout.bmi (b : Byte) : RowLayout.Statement (.bmi b) := wf_of_opcode 0x30#8 2 rfl rfl (by decide)
theorem RowLayout.bvc (b : Byte) : RowLayout.Statement (.bvc b) := wf_of_opcode 0x50#8 2 rfl rfl (by decide)
theorem RowLayout.bvs (b : Byte) : RowLayout.Statement (.bvs b) := wf_of_opcode 0x70#8 2 rfl rfl (by decide)
theorem RowLayout.bcc (b : Byte) : RowLayout.Statement (.bcc b) := wf_of_opcode 0x90#8 2 rfl rfl (by decide)
theorem RowLayout.bcs (b : Byte) : RowLayout.Statement (.bcs b) := wf_of_opcode 0xB0#8 2 rfl rfl (by decide)
theorem RowLayout.bne (b : Byte) : RowLayout.Statement (.bne b) := wf_of_opcode 0xD0#8 2 rfl rfl (by decide)
theorem RowLayout.beq (b : Byte) : RowLayout.Statement (.beq b) := wf_of_opcode 0xF0#8 2 rfl rfl (by decide)
theorem RowLayout.clc : RowLayout.Statement .clc := wf_of_opcode 0x18#8 1 rfl rfl (by decide)
theorem RowLayout.sec : RowLayout.Statement .sec := wf_of_opcode 0x38#8 1 rfl rfl (by decide)
theorem RowLayout.cli : RowLayout.Statement .cli := wf_of_opcode 0x58#8 1 rfl rfl (by decide)
theorem RowLayout.sei : RowLayout.Statement .sei := wf_of_opcode 0x78#8 1 rfl rfl (by decide)
theorem RowLayout.clv : RowLayout.Statement .clv := wf_of_opcode 0xB8#8 1 rfl rfl (by decide)
theorem RowLayout.cld : RowLayout.Statement .cld := wf_of_opcode 0xD8#8 1 rfl rfl (by decide)
theorem RowLayout.sed : RowLayout.Statement .sed := wf_of_opcode 0xF8#8 1 rfl rfl (by decide)
theorem RowLayout.nop : RowLayout.Statement .nop := wf_of_opcode 0xEA#8 1 rfl rfl (by decide)
theorem RowLayout.undefined02 : RowLayout.Statement .undefined02 := wf_of_opcode 0x02#8 1 rfl rfl (by decide)
theorem RowLayout.undefined03 : RowLayout.Statement .undefined03 := wf_of_opcode 0x03#8 1 rfl rfl (by decide)
theorem RowLayout.undefined04 : RowLayout.Statement .undefined04 := wf_of_opcode 0x04#8 1 rfl rfl (by decide)
theorem RowLayout.undefined07 : RowLayout.Statement .undefined07 := wf_of_opcode 0x07#8 1 rfl rfl (by decide)
theorem RowLayout.undefined0B : RowLayout.Statement .undefined0B := wf_of_opcode 0x0B#8 1 rfl rfl (by decide)
theorem RowLayout.undefined0C : RowLayout.Statement .undefined0C := wf_of_opcode 0x0C#8 1 rfl rfl (by decide)
theorem RowLayout.undefined0F : RowLayout.Statement .undefined0F := wf_of_opcode 0x0F#8 1 rfl rfl (by decide)
theorem RowLayout.undefined12 : RowLayout.Statement .undefined12 := wf_of_opcode 0x12#8 1 rfl rfl (by decide)
theorem RowLayout.undefined13 : RowLayout.Statement .undefined13 := wf_of_opcode 0x13#8 1 rfl rfl (by decide)
theorem RowLayout.undefined14 : RowLayout.Statement .undefined14 := wf_of_opcode 0x14#8 1 rfl rfl (by decide)
theorem RowLayout.undefined17 : RowLayout.Statement .undefined17 := wf_of_opcode 0x17#8 1 rfl rfl (by decide)
theorem RowLayout.undefined1A : RowLayout.Statement .undefined1A := wf_of_opcode 0x1A#8 1 rfl rfl (by decide)
theorem RowLayout.undefined1B : RowLayout.Statement .undefined1B := wf_of_opcode 0x1B#8 1 rfl rfl (by decide)
theorem RowLayout.undefined1C : RowLayout.Statement .undefined1C := wf_of_opcode 0x1C#8 1 rfl rfl (by decide)
theorem RowLayout.undefined1F : RowLayout.Statement .undefined1F := wf_of_opcode 0x1F#8 1 rfl rfl (by decide)
theorem RowLayout.undefined22 : RowLayout.Statement .undefined22 := wf_of_opcode 0x22#8 1 rfl rfl (by decide)
theorem RowLayout.undefined23 : RowLayout.Statement .undefined23 := wf_of_opcode 0x23#8 1 rfl rfl (by decide)
theorem RowLayout.undefined27 : RowLayout.Statement .undefined27 := wf_of_opcode 0x27#8 1 rfl rfl (by decide)
theorem RowLayout.undefined2B : RowLayout.Statement .undefined2B := wf_of_opcode 0x2B#8 1 rfl rfl (by decide)
theorem RowLayout.undefined2F : RowLayout.Statement .undefined2F := wf_of_opcode 0x2F#8 1 rfl rfl (by decide)
theorem RowLayout.undefined32 : RowLayout.Statement .undefined32 := wf_of_opcode 0x32#8 1 rfl rfl (by decide)
theorem RowLayout.undefined33 : RowLayout.Statement .undefined33 := wf_of_opcode 0x33#8 1 rfl rfl (by decide)
theorem RowLayout.undefined34 : RowLayout.Statement .undefined34 := wf_of_opcode 0x34#8 1 rfl rfl (by decide)
theorem RowLayout.undefined37 : RowLayout.Statement .undefined37 := wf_of_opcode 0x37#8 1 rfl rfl (by decide)
theorem RowLayout.undefined3A : RowLayout.Statement .undefined3A := wf_of_opcode 0x3A#8 1 rfl rfl (by decide)
theorem RowLayout.undefined3B : RowLayout.Statement .undefined3B := wf_of_opcode 0x3B#8 1 rfl rfl (by decide)
theorem RowLayout.undefined3C : RowLayout.Statement .undefined3C := wf_of_opcode 0x3C#8 1 rfl rfl (by decide)
theorem RowLayout.undefined3F : RowLayout.Statement .undefined3F := wf_of_opcode 0x3F#8 1 rfl rfl (by decide)
theorem RowLayout.undefined42 : RowLayout.Statement .undefined42 := wf_of_opcode 0x42#8 1 rfl rfl (by decide)
theorem RowLayout.undefined43 : RowLayout.Statement .undefined43 := wf_of_opcode 0x43#8 1 rfl rfl (by decide)
theorem RowLayout.undefined44 : RowLayout.Statement .undefined44 := wf_of_opcode 0x44#8 1 rfl rfl (by decide)
theorem RowLayout.undefined47 : RowLayout.Statement .undefined47 := wf_of_opcode 0x47#8 1 rfl rfl (by decide)
theorem RowLayout.undefined4B : RowLayout.Statement .undefined4B := wf_of_opcode 0x4B#8 1 rfl rfl (by decide)
theorem RowLayout.undefined4F : RowLayout.Statement .undefined4F := wf_of_opcode 0x4F#8 1 rfl rfl (by decide)
theorem RowLayout.undefined52 : RowLayout.Statement .undefined52 := wf_of_opcode 0x52#8 1 rfl rfl (by decide)
theorem RowLayout.undefined53 : RowLayout.Statement .undefined53 := wf_of_opcode 0x53#8 1 rfl rfl (by decide)
theorem RowLayout.undefined54 : RowLayout.Statement .undefined54 := wf_of_opcode 0x54#8 1 rfl rfl (by decide)
theorem RowLayout.undefined57 : RowLayout.Statement .undefined57 := wf_of_opcode 0x57#8 1 rfl rfl (by decide)
theorem RowLayout.undefined5A : RowLayout.Statement .undefined5A := wf_of_opcode 0x5A#8 1 rfl rfl (by decide)
theorem RowLayout.undefined5B : RowLayout.Statement .undefined5B := wf_of_opcode 0x5B#8 1 rfl rfl (by decide)
theorem RowLayout.undefined5C : RowLayout.Statement .undefined5C := wf_of_opcode 0x5C#8 1 rfl rfl (by decide)
theorem RowLayout.undefined5F : RowLayout.Statement .undefined5F := wf_of_opcode 0x5F#8 1 rfl rfl (by decide)
theorem RowLayout.undefined62 : RowLayout.Statement .undefined62 := wf_of_opcode 0x62#8 1 rfl rfl (by decide)
theorem RowLayout.undefined63 : RowLayout.Statement .undefined63 := wf_of_opcode 0x63#8 1 rfl rfl (by decide)
theorem RowLayout.undefined64 : RowLayout.Statement .undefined64 := wf_of_opcode 0x64#8 1 rfl rfl (by decide)
theorem RowLayout.undefined67 : RowLayout.Statement .undefined67 := wf_of_opcode 0x67#8 1 rfl rfl (by decide)
theorem RowLayout.undefined6B : RowLayout.Statement .undefined6B := wf_of_opcode 0x6B#8 1 rfl rfl (by decide)
theorem RowLayout.undefined6F : RowLayout.Statement .undefined6F := wf_of_opcode 0x6F#8 1 rfl rfl (by decide)
theorem RowLayout.undefined72 : RowLayout.Statement .undefined72 := wf_of_opcode 0x72#8 1 rfl rfl (by decide)
theorem RowLayout.undefined73 : RowLayout.Statement .undefined73 := wf_of_opcode 0x73#8 1 rfl rfl (by decide)
theorem RowLayout.undefined74 : RowLayout.Statement .undefined74 := wf_of_opcode 0x74#8 1 rfl rfl (by decide)
theorem RowLayout.undefined77 : RowLayout.Statement .undefined77 := wf_of_opcode 0x77#8 1 rfl rfl (by decide)
theorem RowLayout.undefined7A : RowLayout.Statement .undefined7A := wf_of_opcode 0x7A#8 1 rfl rfl (by decide)
theorem RowLayout.undefined7B : RowLayout.Statement .undefined7B := wf_of_opcode 0x7B#8 1 rfl rfl (by decide)
theorem RowLayout.undefined7C : RowLayout.Statement .undefined7C := wf_of_opcode 0x7C#8 1 rfl rfl (by decide)
theorem RowLayout.undefined7F : RowLayout.Statement .undefined7F := wf_of_opcode 0x7F#8 1 rfl rfl (by decide)
theorem RowLayout.undefined80 : RowLayout.Statement .undefined80 := wf_of_opcode 0x80#8 1 rfl rfl (by decide)
theorem RowLayout.undefined82 : RowLayout.Statement .undefined82 := wf_of_opcode 0x82#8 1 rfl rfl (by decide)
theorem RowLayout.undefined83 : RowLayout.Statement .undefined83 := wf_of_opcode 0x83#8 1 rfl rfl (by decide)
theorem RowLayout.undefined87 : RowLayout.Statement .undefined87 := wf_of_opcode 0x87#8 1 rfl rfl (by decide)
theorem RowLayout.undefined89 : RowLayout.Statement .undefined89 := wf_of_opcode 0x89#8 1 rfl rfl (by decide)
theorem RowLayout.undefined8B : RowLayout.Statement .undefined8B := wf_of_opcode 0x8B#8 1 rfl rfl (by decide)
theorem RowLayout.undefined8F : RowLayout.Statement .undefined8F := wf_of_opcode 0x8F#8 1 rfl rfl (by decide)
theorem RowLayout.undefined92 : RowLayout.Statement .undefined92 := wf_of_opcode 0x92#8 1 rfl rfl (by decide)
theorem RowLayout.undefined93 : RowLayout.Statement .undefined93 := wf_of_opcode 0x93#8 1 rfl rfl (by decide)
theorem RowLayout.undefined97 : RowLayout.Statement .undefined97 := wf_of_opcode 0x97#8 1 rfl rfl (by decide)
theorem RowLayout.undefined9B : RowLayout.Statement .undefined9B := wf_of_opcode 0x9B#8 1 rfl rfl (by decide)
theorem RowLayout.undefined9C : RowLayout.Statement .undefined9C := wf_of_opcode 0x9C#8 1 rfl rfl (by decide)
theorem RowLayout.undefined9E : RowLayout.Statement .undefined9E := wf_of_opcode 0x9E#8 1 rfl rfl (by decide)
theorem RowLayout.undefined9F : RowLayout.Statement .undefined9F := wf_of_opcode 0x9F#8 1 rfl rfl (by decide)
theorem RowLayout.undefinedA3 : RowLayout.Statement .undefinedA3 := wf_of_opcode 0xA3#8 1 rfl rfl (by decide)
theorem RowLayout.undefinedA7 : RowLayout.Statement .undefinedA7 := wf_of_opcode 0xA7#8 1 rfl rfl (by decide)
theorem RowLayout.undefinedAB : RowLayout.Statement .undefinedAB := wf_of_opcode 0xAB#8 1 rfl rfl (by decide)
theorem RowLayout.undefinedAF : RowLayout.Statement .undefinedAF := wf_of_opcode 0xAF#8 1 rfl rfl (by decide)
theorem RowLayout.undefinedB2 : RowLayout.Statement .undefinedB2 := wf_of_opcode 0xB2#8 1 rfl rfl (by decide)
theorem RowLayout.undefinedB3 : RowLayout.Statement .undefinedB3 := wf_of_opcode 0xB3#8 1 rfl rfl (by decide)
theorem RowLayout.undefinedB7 : RowLayout.Statement .undefinedB7 := wf_of_opcode 0xB7#8 1 rfl rfl (by decide)
theorem RowLayout.undefinedBB : RowLayout.Statement .undefinedBB := wf_of_opcode 0xBB#8 1 rfl rfl (by decide)
theorem RowLayout.undefinedBF : RowLayout.Statement .undefinedBF := wf_of_opcode 0xBF#8 1 rfl rfl (by decide)
theorem RowLayout.undefinedC2 : RowLayout.Statement .undefinedC2 := wf_of_opcode 0xC2#8 1 rfl rfl (by decide)
theorem RowLayout.undefinedC3 : RowLayout.Statement .undefinedC3 := wf_of_opcode 0xC3#8 1 rfl rfl (by decide)
theorem RowLayout.undefinedC7 : RowLayout.Statement .undefinedC7 := wf_of_opcode 0xC7#8 1 rfl rfl (by decide)
theorem RowLayout.undefinedCB : RowLayout.Statement .undefinedCB := wf_of_opcode 0xCB#8 1 rfl rfl (by decide)
theorem RowLayout.undefinedCF : RowLayout.Statement .undefinedCF := wf_of_opcode 0xCF#8 1 rfl rfl (by decide)
theorem RowLayout.undefinedD2 : RowLayout.Statement .undefinedD2 := wf_of_opcode 0xD2#8 1 rfl rfl (by decide)
theorem RowLayout.undefinedD3 : RowLayout.Statement .undefinedD3 := wf_of_opcode 0xD3#8 1 rfl rfl (by decide)
theorem RowLayout.undefinedD4 : RowLayout.Statement .undefinedD4 := wf_of_opcode 0xD4#8 1 rfl rfl (by decide)
theorem RowLayout.undefinedD7 : RowLayout.Statement .undefinedD7 := wf_of_opcode 0xD7#8 1 rfl rfl (by decide)
theorem RowLayout.undefinedDA : RowLayout.Statement .undefinedDA := wf_of_opcode 0xDA#8 1 rfl rfl (by decide)
theorem RowLayout.undefinedDB : RowLayout.Statement .undefinedDB := wf_of_opcode 0xDB#8 1 rfl rfl (by decide)
theorem RowLayout.undefinedDC : RowLayout.Statement .undefinedDC := wf_of_opcode 0xDC#8 1 rfl rfl (by decide)
theorem RowLayout.undefinedDF : RowLayout.Statement .undefinedDF := wf_of_opcode 0xDF#8 1 rfl rfl (by decide)
theorem RowLayout.undefinedE2 : RowLayout.Statement .undefinedE2 := wf_of_opcode 0xE2#8 1 rfl rfl (by decide)
theorem RowLayout.undefinedE3 : RowLayout.Statement .undefinedE3 := wf_of_opcode 0xE3#8 1 rfl rfl (by decide)
theorem RowLayout.undefinedE7 : RowLayout.Statement .undefinedE7 := wf_of_opcode 0xE7#8 1 rfl rfl (by decide)
theorem RowLayout.undefinedEB : RowLayout.Statement .undefinedEB := wf_of_opcode 0xEB#8 1 rfl rfl (by decide)
theorem RowLayout.undefinedEF : RowLayout.Statement .undefinedEF := wf_of_opcode 0xEF#8 1 rfl rfl (by decide)
theorem RowLayout.undefinedF2 : RowLayout.Statement .undefinedF2 := wf_of_opcode 0xF2#8 1 rfl rfl (by decide)
theorem RowLayout.undefinedF3 : RowLayout.Statement .undefinedF3 := wf_of_opcode 0xF3#8 1 rfl rfl (by decide)
theorem RowLayout.undefinedF4 : RowLayout.Statement .undefinedF4 := wf_of_opcode 0xF4#8 1 rfl rfl (by decide)
theorem RowLayout.undefinedF7 : RowLayout.Statement .undefinedF7 := wf_of_opcode 0xF7#8 1 rfl rfl (by decide)
theorem RowLayout.undefinedFA : RowLayout.Statement .undefinedFA := wf_of_opcode 0xFA#8 1 rfl rfl (by decide)
theorem RowLayout.undefinedFB : RowLayout.Statement .undefinedFB := wf_of_opcode 0xFB#8 1 rfl rfl (by decide)
theorem RowLayout.undefinedFC : RowLayout.Statement .undefinedFC := wf_of_opcode 0xFC#8 1 rfl rfl (by decide)
theorem RowLayout.undefinedFF : RowLayout.Statement .undefinedFF := wf_of_opcode 0xFF#8 1 rfl rfl (by decide)

end Sys2Proof.Laws
end

