-- ==== Sys2Proof/Laws/Render.lean ====
section
/-! SUPPORT. The text of each addressing mode (40_decode_and_format.md R53, R54), so that no proof unfolds the formatter. -/

namespace Sys2Proof.Machine

@[simp] theorem hex2_toList (b : Byte) :
    (hex2 b).toList = [hexDigit (b.extractLsb' 4 4), hexDigit (b.extractLsb' 0 4)] := by
  simp [hex2]

theorem word16_high (l h : Byte) : (word16 l h).extractLsb' 8 8 = h := by
  ext i hi
  have h₁ : 8 + i < 16 := by omega
  have h₂ : ¬ 8 + i < 8 := by omega
  simp [word16, h₁, h₂, BitVec.getLsbD_eq_getElem hi]

theorem word16_low (l h : Byte) : (word16 l h).extractLsb' 0 8 = l := by
  ext i hi
  have h₁ : i < 16 := by omega
  simp [word16, hi, h₁]

/-- A 16-bit operand prints its high byte first (20_memory.md R26). -/
theorem hex4_word16 (l h : Byte) : hex4 (word16 l h) = hex2 h ++ hex2 l := by
  rw [hex4, word16_high, word16_low]

/-! What follows the mnemonic in the text of an `Ok` record, one lemma per shape of operand: `textTail mode ops` is the operand
text with the one space before it, or nothing. -/

/-- The part of an `Ok` text after the mnemonic (40_decode_and_format.md R54). -/
def textTail (mode : AddressingMode) (ops : List Byte) : String :=
  if opText mode ops = "" then "" else " " ++ opText mode ops

theorem text_ok (d : Decoded) : (Result.ok d).text = d.mnemonic.text ++ textTail d.mode d.operands := rfl

theorem textTail_eq_of_ne {mode : AddressingMode} {ops : List Byte} {x y : String} (h : opText mode ops = x) (hx : x ≠ "")
    (hy : " " ++ x = y) : textTail mode ops = y := by
  rw [textTail, h, if_neg hx, hy]

theorem textTail_implicit : textTail .implicit [] = "" := by decide
theorem textTail_accumulator : textTail .accumulator [] = " A" := by decide

theorem textTail_immediate (b : Byte) : textTail .immediate [b] = " #$" ++ hex2 b := by
  have hx : opText .immediate [b] = "#$" ++ hex2 b := by
    simp only [opText, operandValue, opCount, OperandValue.digits]
  refine textTail_eq_of_ne hx ?_ ?_ <;> simp [← String.toList_inj]

theorem textTail_zeroPage (b : Byte) : textTail .zeroPage [b] = " $" ++ hex2 b := by
  have hx : opText .zeroPage [b] = "$" ++ hex2 b := by
    simp only [opText, operandValue, opCount, OperandValue.digits]
  refine textTail_eq_of_ne hx ?_ ?_ <;> simp [← String.toList_inj]

theorem textTail_zeroPageX (b : Byte) : textTail .zeroPageX [b] = " $" ++ hex2 b ++ ", X" := by
  have hx : opText .zeroPageX [b] = "$" ++ hex2 b ++ ", X" := by
    simp only [opText, operandValue, opCount, OperandValue.digits]
  refine textTail_eq_of_ne hx ?_ ?_ <;> simp [← String.toList_inj]

theorem textTail_zeroPageY (b : Byte) : textTail .zeroPageY [b] = " $" ++ hex2 b ++ ", Y" := by
  have hx : opText .zeroPageY [b] = "$" ++ hex2 b ++ ", Y" := by
    simp only [opText, operandValue, opCount, OperandValue.digits]
  refine textTail_eq_of_ne hx ?_ ?_ <;> simp [← String.toList_inj]

theorem textTail_relative (b : Byte) : textTail .relative [b] = " $" ++ hex2 b := by
  have hx : opText .relative [b] = "$" ++ hex2 b := by
    simp only [opText, operandValue, opCount, OperandValue.digits]
  refine textTail_eq_of_ne hx ?_ ?_ <;> simp [← String.toList_inj]

theorem textTail_indirectX (b : Byte) : textTail .indirectX [b] = " ($" ++ hex2 b ++ ", X)" := by
  have hx : opText .indirectX [b] = "($" ++ hex2 b ++ ", X)" := by
    simp only [opText, operandValue, opCount, OperandValue.digits]
  refine textTail_eq_of_ne hx ?_ ?_ <;> simp [← String.toList_inj]

theorem textTail_indirectY (b : Byte) : textTail .indirectY [b] = " ($" ++ hex2 b ++ "), Y" := by
  have hx : opText .indirectY [b] = "($" ++ hex2 b ++ "), Y" := by
    simp only [opText, operandValue, opCount, OperandValue.digits]
  refine textTail_eq_of_ne hx ?_ ?_ <;> simp [← String.toList_inj]

theorem textTail_absolute (l h : Byte) : textTail .absolute [l, h] = " $" ++ hex2 h ++ hex2 l := by
  have hx : opText .absolute [l, h] = "$" ++ (hex2 h ++ hex2 l) := by
    simp only [opText, operandValue, opCount, OperandValue.digits, hex4_word16]
  refine textTail_eq_of_ne hx ?_ ?_ <;> simp [← String.toList_inj]

theorem textTail_absoluteX (l h : Byte) : textTail .absoluteX [l, h] = " $" ++ hex2 h ++ hex2 l ++ ", X" := by
  have hx : opText .absoluteX [l, h] = "$" ++ (hex2 h ++ hex2 l) ++ ", X" := by
    simp only [opText, operandValue, opCount, OperandValue.digits, hex4_word16]
  refine textTail_eq_of_ne hx ?_ ?_ <;> simp [← String.toList_inj]

theorem textTail_absoluteY (l h : Byte) : textTail .absoluteY [l, h] = " $" ++ hex2 h ++ hex2 l ++ ", Y" := by
  have hx : opText .absoluteY [l, h] = "$" ++ (hex2 h ++ hex2 l) ++ ", Y" := by
    simp only [opText, operandValue, opCount, OperandValue.digits, hex4_word16]
  refine textTail_eq_of_ne hx ?_ ?_ <;> simp [← String.toList_inj]

theorem textTail_indirect (l h : Byte) : textTail .indirect [l, h] = " ($" ++ hex2 h ++ hex2 l ++ ")" := by
  have hx : opText .indirect [l, h] = "($" ++ (hex2 h ++ hex2 l) ++ ")" := by
    simp only [opText, operandValue, opCount, OperandValue.digits, hex4_word16]
  refine textTail_eq_of_ne hx ?_ ?_ <;> simp [← String.toList_inj]

end Sys2Proof.Machine
end

