-- ==== Sys2Proof/Laws/Row.lean ====
section
/-! SUPPORT. A row of the opcode table runs as its rule says once its table entry, its bytes, its meaning and its text are
named: one lemma for the defined rows and one for the undefined values. -/

namespace Sys2Proof.Machine

/-- A defined row (R65 to R120): `hT` is its table entry, `he` and `hi` its bytes, `hx` its meaning, `hname` and `htl` its
text. -/
theorem rowRuns_of_table {i : Instr} {op : Byte} {m : Mnemonic} {mode : AddressingMode} {ops : List Byte} {name tl : String}
    (hT : TABLE op = some { mnemonic := m, mode := mode }) (hlen : ops.length = opCount mode)
    (he : encode i = op :: ops) (hi : instrOf op (ops.getD 0 0) (ops.getD 1 0) = i)
    (hx : ∀ s, exec i s = definedCall op m mode ops s) (hname : m.text = name)
    (htl : textTail mode ops = tl) : RowRuns i op m mode ops name tl := by
  have hn : neededBy op = ops.length := by simp [neededBy, hT, hlen]
  have h2 := neededBy_le op
  have hget : ∀ rest : List Byte, [(ops ++ rest).getD 0 0, (ops ++ rest).getD 1 0].take ops.length = ops := by
    intro rest
    rcases ops with _ | ⟨a, _ | ⟨b, _ | ⟨c, t⟩⟩⟩ <;> simp at hn h2 ⊢
    omega
  refine ⟨he, fun rest => ?_, fun s => ⟨fun hs hb => ?_, fun hf => ?_, fun h1 h2 => ?_, fun hs => ?_⟩⟩
  · have : ¬ (ops ++ rest).length < neededBy op := by simp [hn]
    simp only [decode, if_neg this]
    rw [← hi, hn, List.drop_left]
    congr 2
    apply instrOf_congr
    rw [hn, hget]
    have := hget []
    simpa using this.symm
  · rw [step_of_validCall hs]
    have hsl : s.buf.byteAt s.off = op := by
      have := hb
      unfold Memory.holds at this
      rw [Memory.slice_cons _ (by simp; omega)] at this
      rw [show s.buf.len - s.off = (s.buf.len - s.off - 1) + 1 by omega, List.take_succ_cons] at this
      exact (List.cons.inj this).1
    rw [hsl, exec_instrOf, hT, hx]
    unfold definedCall
    refine congrArg (fun r => conclude r s) (definedResult_congr_take op m mode ?_)
    rw [← hlen]
    apply List.ext_getElem
    · simp; omega
    · intro k k1 k2
      simp only [List.length_take] at k1 k2
      simp only [List.getElem_take]
      have hk : s.off + (k + 1) < s.buf.len := by omega
      have hr : operandsRead s.buf s.off = min ops.length (s.buf.len - s.off - 1) := by simp [operandsRead, hsl, hn]
      have hv : s.buf.byteAt (s.off + 1 + k) = ops[k] := by
        have h3 := congrArg (fun l => l[k+1]?) hb
        rw [List.getElem?_eq_getElem (by simp; omega), List.getElem?_take_of_lt (by omega), Memory.getElem_slice,
          List.getElem?_cons_succ, List.getElem?_eq_getElem (by omega)] at h3
        rw [← Option.some.inj h3]; congr 1; omega
      have : k = 0 ∨ k = 1 := by omega
      rcases this with rfl | rfl <;> simp only [List.getElem_cons_zero, List.getElem_cons_succ] <;>
        rw [operandByte_read (by omega), hv]
  · rw [hx, definedCall, definedResult_ok op m hlen hf]
    simp only [conclude, State.deliver, Result.length, text_ok, htl, hname]
  · rw [hx, definedCall, definedResult_truncated op m hlen h1 h2]
    simp only [conclude, State.deliver, Result.length, Result.text, hname]
    rw [show s.off + (s.buf.len - s.off) = s.buf.len by omega]
    congr 4
    rw [String.append_assoc]; congr 1
  · rw [hx, definedCall, definedResult_invalid op m mode ops hs]; rfl

/-- An undefined value (48_undefined.md R121). -/
theorem undefinedRuns_of_table {i : Instr} {op : Byte} (hT : TABLE op = none) (he : encode i = [op])
   (hi : instrOf op 0 0 = i) (hx : ∀ s, exec i s = undefinedCall op s) : UndefinedRuns i op := by
  have hn : neededBy op = 0 := by simp [neededBy, hT]
  refine ⟨hT, he, fun rest => ?_, fun s => ⟨fun hs hb => ?_, fun hf => ?_, fun h1 => ?_⟩⟩
  · simp only [decode, hn, Nat.not_lt_zero, if_false, List.drop_zero]
    rw [← hi]; congr 2
    apply instrOf_congr; rw [hn]; rfl
  · rw [step_of_validCall hs, hb, exec_instrOf, hT, hx]
  · rw [hx, undefinedCall, undefinedResult, if_pos hf]; rfl
  · rw [hx, undefinedCall, undefinedResult, if_neg (by omega)]; rfl

end Sys2Proof.Machine
end

