-- ==== Sys2Proof/Tests/Slice0.lean ====
section
/-! SUPPORT. The model's own tests. Expected values come from spec/95_test_vectors.md (its row is named at each test), from
spec/opcode_table.json (the decode words), or by hand from the rule named. `witness_<Obligation>` shows that the hypotheses of
that statement are met together, clause by clause where it has several. -/

namespace Sys2Proof.Tests

open Sys2Proof Sys2Proof.Machine

/-- A buffer with the cursor in it, before the first call. -/
def load (bytes : List Byte) (off : Nat) : State :=
  { buf := Memory.ofBytes bytes, off := off, lines := [], result := none }

/-- The line, the cursor and the status after one step. -/
def oneStep (s : State) : Option (List String × Nat × Option Status) :=
  (nextState? (step s)).map fun t => (t.lines, t.off, t.result.map Result.status)

/-- The operand bytes in the record after one step. -/
def operandsAfter (s : State) : Option (List Byte) :=
  (nextState? (step s)).bind fun t => t.result.bind fun r => r.record?.map Decoded.operands

/-! Decoding: every row of the table, by family. -/

/-- The encodings of 41_load_store.md, opcode bit by bit; operand 0x5A, or 0x34 0x12 (low byte first). -/
def wordsLoadStore : List (List Byte × Instr) :=
  [([0b10100001#8, 0x5A#8], .ldaIndirectX 0x5A), ([0b10100101#8, 0x5A#8], .ldaZeroPage 0x5A),
   ([0b10101001#8, 0x5A#8], .ldaImmediate 0x5A), ([0b10101101#8, 0x34#8, 0x12#8], .ldaAbsolute 0x34 0x12),
   ([0b10110001#8, 0x5A#8], .ldaIndirectY 0x5A), ([0b10110101#8, 0x5A#8], .ldaZeroPageX 0x5A),
   ([0b10111001#8, 0x34#8, 0x12#8], .ldaAbsoluteY 0x34 0x12), ([0b10111101#8, 0x34#8, 0x12#8], .ldaAbsoluteX 0x34 0x12),
   ([0b10100010#8, 0x5A#8], .ldxImmediate 0x5A), ([0b10100110#8, 0x5A#8], .ldxZeroPage 0x5A),
   ([0b10101110#8, 0x34#8, 0x12#8], .ldxAbsolute 0x34 0x12), ([0b10110110#8, 0x5A#8], .ldxZeroPageY 0x5A),
   ([0b10111110#8, 0x34#8, 0x12#8], .ldxAbsoluteY 0x34 0x12), ([0b10100000#8, 0x5A#8], .ldyImmediate 0x5A),
   ([0b10100100#8, 0x5A#8], .ldyZeroPage 0x5A), ([0b10101100#8, 0x34#8, 0x12#8], .ldyAbsolute 0x34 0x12),
   ([0b10110100#8, 0x5A#8], .ldyZeroPageX 0x5A), ([0b10111100#8, 0x34#8, 0x12#8], .ldyAbsoluteX 0x34 0x12),
   ([0b10000001#8, 0x5A#8], .staIndirectX 0x5A), ([0b10000101#8, 0x5A#8], .staZeroPage 0x5A),
   ([0b10001101#8, 0x34#8, 0x12#8], .staAbsolute 0x34 0x12), ([0b10010001#8, 0x5A#8], .staIndirectY 0x5A),
   ([0b10010101#8, 0x5A#8], .staZeroPageX 0x5A), ([0b10011001#8, 0x34#8, 0x12#8], .staAbsoluteY 0x34 0x12),
   ([0b10011101#8, 0x34#8, 0x12#8], .staAbsoluteX 0x34 0x12), ([0b10000110#8, 0x5A#8], .stxZeroPage 0x5A),
   ([0b10001110#8, 0x34#8, 0x12#8], .stxAbsolute 0x34 0x12), ([0b10010110#8, 0x5A#8], .stxZeroPageY 0x5A),
   ([0b10000100#8, 0x5A#8], .styZeroPage 0x5A), ([0b10001100#8, 0x34#8, 0x12#8], .styAbsolute 0x34 0x12),
   ([0b10010100#8, 0x5A#8], .styZeroPageX 0x5A)]

theorem test_decode_wordsLoadStore : wordsLoadStore.map (fun p => (decode p.1).toOption) = wordsLoadStore.map (fun p => some (p.2, [])) := by decide

/-- The encodings of 42_alu.md, opcode bit by bit; operand 0x5A, or 0x34 0x12 (low byte first). -/
def wordsAlu : List (List Byte × Instr) :=
  [([0b01100001#8, 0x5A#8], .adcIndirectX 0x5A), ([0b01100101#8, 0x5A#8], .adcZeroPage 0x5A),
   ([0b01101001#8, 0x5A#8], .adcImmediate 0x5A), ([0b01101101#8, 0x34#8, 0x12#8], .adcAbsolute 0x34 0x12),
   ([0b01110001#8, 0x5A#8], .adcIndirectY 0x5A), ([0b01110101#8, 0x5A#8], .adcZeroPageX 0x5A),
   ([0b01111001#8, 0x34#8, 0x12#8], .adcAbsoluteY 0x34 0x12), ([0b01111101#8, 0x34#8, 0x12#8], .adcAbsoluteX 0x34 0x12),
   ([0b11100001#8, 0x5A#8], .sbcIndirectX 0x5A), ([0b11100101#8, 0x5A#8], .sbcZeroPage 0x5A),
   ([0b11101001#8, 0x5A#8], .sbcImmediate 0x5A), ([0b11101101#8, 0x34#8, 0x12#8], .sbcAbsolute 0x34 0x12),
   ([0b11110001#8, 0x5A#8], .sbcIndirectY 0x5A), ([0b11110101#8, 0x5A#8], .sbcZeroPageX 0x5A),
   ([0b11111001#8, 0x34#8, 0x12#8], .sbcAbsoluteY 0x34 0x12), ([0b11111101#8, 0x34#8, 0x12#8], .sbcAbsoluteX 0x34 0x12),
   ([0b00100001#8, 0x5A#8], .andIndirectX 0x5A), ([0b00100101#8, 0x5A#8], .andZeroPage 0x5A),
   ([0b00101001#8, 0x5A#8], .andImmediate 0x5A), ([0b00101101#8, 0x34#8, 0x12#8], .andAbsolute 0x34 0x12),
   ([0b00110001#8, 0x5A#8], .andIndirectY 0x5A), ([0b00110101#8, 0x5A#8], .andZeroPageX 0x5A),
   ([0b00111001#8, 0x34#8, 0x12#8], .andAbsoluteY 0x34 0x12), ([0b00111101#8, 0x34#8, 0x12#8], .andAbsoluteX 0x34 0x12),
   ([0b00000001#8, 0x5A#8], .oraIndirectX 0x5A), ([0b00000101#8, 0x5A#8], .oraZeroPage 0x5A),
   ([0b00001001#8, 0x5A#8], .oraImmediate 0x5A), ([0b00001101#8, 0x34#8, 0x12#8], .oraAbsolute 0x34 0x12),
   ([0b00010001#8, 0x5A#8], .oraIndirectY 0x5A), ([0b00010101#8, 0x5A#8], .oraZeroPageX 0x5A),
   ([0b00011001#8, 0x34#8, 0x12#8], .oraAbsoluteY 0x34 0x12), ([0b00011101#8, 0x34#8, 0x12#8], .oraAbsoluteX 0x34 0x12)] ++
  [([0b01000001#8, 0x5A#8], .eorIndirectX 0x5A), ([0b01000101#8, 0x5A#8], .eorZeroPage 0x5A),
   ([0b01001001#8, 0x5A#8], .eorImmediate 0x5A), ([0b01001101#8, 0x34#8, 0x12#8], .eorAbsolute 0x34 0x12),
   ([0b01010001#8, 0x5A#8], .eorIndirectY 0x5A), ([0b01010101#8, 0x5A#8], .eorZeroPageX 0x5A),
   ([0b01011001#8, 0x34#8, 0x12#8], .eorAbsoluteY 0x34 0x12), ([0b01011101#8, 0x34#8, 0x12#8], .eorAbsoluteX 0x34 0x12),
   ([0b11000001#8, 0x5A#8], .cmpIndirectX 0x5A), ([0b11000101#8, 0x5A#8], .cmpZeroPage 0x5A),
   ([0b11001001#8, 0x5A#8], .cmpImmediate 0x5A), ([0b11001101#8, 0x34#8, 0x12#8], .cmpAbsolute 0x34 0x12),
   ([0b11010001#8, 0x5A#8], .cmpIndirectY 0x5A), ([0b11010101#8, 0x5A#8], .cmpZeroPageX 0x5A),
   ([0b11011001#8, 0x34#8, 0x12#8], .cmpAbsoluteY 0x34 0x12), ([0b11011101#8, 0x34#8, 0x12#8], .cmpAbsoluteX 0x34 0x12),
   ([0b11100000#8, 0x5A#8], .cpxImmediate 0x5A), ([0b11100100#8, 0x5A#8], .cpxZeroPage 0x5A),
   ([0b11101100#8, 0x34#8, 0x12#8], .cpxAbsolute 0x34 0x12), ([0b11000000#8, 0x5A#8], .cpyImmediate 0x5A),
   ([0b11000100#8, 0x5A#8], .cpyZeroPage 0x5A), ([0b11001100#8, 0x34#8, 0x12#8], .cpyAbsolute 0x34 0x12),
   ([0b00100100#8, 0x5A#8], .bitZeroPage 0x5A), ([0b00101100#8, 0x34#8, 0x12#8], .bitAbsolute 0x34 0x12)]

theorem test_decode_wordsAlu : wordsAlu.map (fun p => (decode p.1).toOption) = wordsAlu.map (fun p => some (p.2, [])) := by decide

/-- The encodings of 43_read_modify_write.md, opcode bit by bit; operand 0x5A, or 0x34 0x12 (low byte first). -/
def wordsReadModifyWrite : List (List Byte × Instr) :=
  [([0b00000110#8, 0x5A#8], .aslZeroPage 0x5A), ([0b00001010#8], .aslAccumulator),
   ([0b00001110#8, 0x34#8, 0x12#8], .aslAbsolute 0x34 0x12), ([0b00010110#8, 0x5A#8], .aslZeroPageX 0x5A),
   ([0b00011110#8, 0x34#8, 0x12#8], .aslAbsoluteX 0x34 0x12), ([0b01000110#8, 0x5A#8], .lsrZeroPage 0x5A),
   ([0b01001010#8], .lsrAccumulator), ([0b01001110#8, 0x34#8, 0x12#8], .lsrAbsolute 0x34 0x12),
   ([0b01010110#8, 0x5A#8], .lsrZeroPageX 0x5A), ([0b01011110#8, 0x34#8, 0x12#8], .lsrAbsoluteX 0x34 0x12),
   ([0b00100110#8, 0x5A#8], .rolZeroPage 0x5A), ([0b00101010#8], .rolAccumulator),
   ([0b00101110#8, 0x34#8, 0x12#8], .rolAbsolute 0x34 0x12), ([0b00110110#8, 0x5A#8], .rolZeroPageX 0x5A),
   ([0b00111110#8, 0x34#8, 0x12#8], .rolAbsoluteX 0x34 0x12), ([0b01100110#8, 0x5A#8], .rorZeroPage 0x5A),
   ([0b01101010#8], .rorAccumulator), ([0b01101110#8, 0x34#8, 0x12#8], .rorAbsolute 0x34 0x12),
   ([0b01110110#8, 0x5A#8], .rorZeroPageX 0x5A), ([0b01111110#8, 0x34#8, 0x12#8], .rorAbsoluteX 0x34 0x12),
   ([0b11100110#8, 0x5A#8], .incZeroPage 0x5A), ([0b11101110#8, 0x34#8, 0x12#8], .incAbsolute 0x34 0x12),
   ([0b11110110#8, 0x5A#8], .incZeroPageX 0x5A), ([0b11111110#8, 0x34#8, 0x12#8], .incAbsoluteX 0x34 0x12),
   ([0b11000110#8, 0x5A#8], .decZeroPage 0x5A), ([0b11001110#8, 0x34#8, 0x12#8], .decAbsolute 0x34 0x12),
   ([0b11010110#8, 0x5A#8], .decZeroPageX 0x5A), ([0b11011110#8, 0x34#8, 0x12#8], .decAbsoluteX 0x34 0x12)]

theorem test_decode_wordsReadModifyWrite : wordsReadModifyWrite.map (fun p => (decode p.1).toOption) = wordsReadModifyWrite.map (fun p => some (p.2, [])) := by decide

/-- The encodings of 44_register.md, opcode bit by bit; operand 0x5A, or 0x34 0x12 (low byte first). -/
def wordsRegister : List (List Byte × Instr) :=
  [([0b10101010#8], .tax), ([0b10101000#8], .tay), ([0b10111010#8], .tsx),
   ([0b10001010#8], .txa), ([0b10011010#8], .txs), ([0b10011000#8], .tya),
   ([0b11101000#8], .inx), ([0b11001000#8], .iny), ([0b11001010#8], .dex),
   ([0b10001000#8], .dey)]

theorem test_decode_wordsRegister : wordsRegister.map (fun p => (decode p.1).toOption) = wordsRegister.map (fun p => some (p.2, [])) := by decide

/-- The encodings of 45_stack.md, opcode bit by bit; operand 0x5A, or 0x34 0x12 (low byte first). -/
def wordsStack : List (List Byte × Instr) :=
  [([0b01001000#8], .pha), ([0b00001000#8], .php), ([0b01101000#8], .pla),
   ([0b00101000#8], .plp)]

theorem test_decode_wordsStack : wordsStack.map (fun p => (decode p.1).toOption) = wordsStack.map (fun p => some (p.2, [])) := by decide

/-- The encodings of 46_control.md, opcode bit by bit; operand 0x5A, or 0x34 0x12 (low byte first). -/
def wordsControl : List (List Byte × Instr) :=
  [([0b01001100#8, 0x34#8, 0x12#8], .jmpAbsolute 0x34 0x12), ([0b01101100#8, 0x34#8, 0x12#8], .jmpIndirect 0x34 0x12),
   ([0b00100000#8, 0x34#8, 0x12#8], .jsr 0x34 0x12), ([0b01100000#8], .rts),
   ([0b01000000#8], .rti), ([0b00000000#8], .brk),
   ([0b00010000#8, 0x5A#8], .bpl 0x5A), ([0b00110000#8, 0x5A#8], .bmi 0x5A),
   ([0b01010000#8, 0x5A#8], .bvc 0x5A), ([0b01110000#8, 0x5A#8], .bvs 0x5A),
   ([0b10010000#8, 0x5A#8], .bcc 0x5A), ([0b10110000#8, 0x5A#8], .bcs 0x5A),
   ([0b11010000#8, 0x5A#8], .bne 0x5A), ([0b11110000#8, 0x5A#8], .beq 0x5A)]

theorem test_decode_wordsControl : wordsControl.map (fun p => (decode p.1).toOption) = wordsControl.map (fun p => some (p.2, [])) := by decide

/-- The encodings of 47_flag_and_nop.md, opcode bit by bit; operand 0x5A, or 0x34 0x12 (low byte first). -/
def wordsFlagNop : List (List Byte × Instr) :=
  [([0b00011000#8], .clc), ([0b00111000#8], .sec), ([0b01011000#8], .cli),
   ([0b01111000#8], .sei), ([0b10111000#8], .clv), ([0b11011000#8], .cld),
   ([0b11111000#8], .sed), ([0b11101010#8], .nop)]

theorem test_decode_wordsFlagNop : wordsFlagNop.map (fun p => (decode p.1).toOption) = wordsFlagNop.map (fun p => some (p.2, [])) := by decide

/-- The encodings of 48_undefined.md, opcode bit by bit; operand 0x5A, or 0x34 0x12 (low byte first). -/
def wordsUndefined : List (List Byte × Instr) :=
  [([0b00000010#8], .undefined02), ([0b00000011#8], .undefined03), ([0b00000100#8], .undefined04),
   ([0b00000111#8], .undefined07), ([0b00001011#8], .undefined0B), ([0b00001100#8], .undefined0C),
   ([0b00001111#8], .undefined0F), ([0b00010010#8], .undefined12), ([0b00010011#8], .undefined13),
   ([0b00010100#8], .undefined14), ([0b00010111#8], .undefined17), ([0b00011010#8], .undefined1A),
   ([0b00011011#8], .undefined1B), ([0b00011100#8], .undefined1C), ([0b00011111#8], .undefined1F),
   ([0b00100010#8], .undefined22), ([0b00100011#8], .undefined23), ([0b00100111#8], .undefined27),
   ([0b00101011#8], .undefined2B), ([0b00101111#8], .undefined2F), ([0b00110010#8], .undefined32),
   ([0b00110011#8], .undefined33), ([0b00110100#8], .undefined34), ([0b00110111#8], .undefined37),
   ([0b00111010#8], .undefined3A), ([0b00111011#8], .undefined3B), ([0b00111100#8], .undefined3C),
   ([0b00111111#8], .undefined3F), ([0b01000010#8], .undefined42), ([0b01000011#8], .undefined43),
   ([0b01000100#8], .undefined44), ([0b01000111#8], .undefined47)] ++
  [([0b01001011#8], .undefined4B), ([0b01001111#8], .undefined4F), ([0b01010010#8], .undefined52),
   ([0b01010011#8], .undefined53), ([0b01010100#8], .undefined54), ([0b01010111#8], .undefined57),
   ([0b01011010#8], .undefined5A), ([0b01011011#8], .undefined5B), ([0b01011100#8], .undefined5C),
   ([0b01011111#8], .undefined5F), ([0b01100010#8], .undefined62), ([0b01100011#8], .undefined63),
   ([0b01100100#8], .undefined64), ([0b01100111#8], .undefined67), ([0b01101011#8], .undefined6B),
   ([0b01101111#8], .undefined6F), ([0b01110010#8], .undefined72), ([0b01110011#8], .undefined73),
   ([0b01110100#8], .undefined74), ([0b01110111#8], .undefined77), ([0b01111010#8], .undefined7A),
   ([0b01111011#8], .undefined7B), ([0b01111100#8], .undefined7C), ([0b01111111#8], .undefined7F),
   ([0b10000000#8], .undefined80), ([0b10000010#8], .undefined82), ([0b10000011#8], .undefined83),
   ([0b10000111#8], .undefined87), ([0b10001001#8], .undefined89), ([0b10001011#8], .undefined8B),
   ([0b10001111#8], .undefined8F), ([0b10010010#8], .undefined92)] ++
  [([0b10010011#8], .undefined93), ([0b10010111#8], .undefined97), ([0b10011011#8], .undefined9B),
   ([0b10011100#8], .undefined9C), ([0b10011110#8], .undefined9E), ([0b10011111#8], .undefined9F),
   ([0b10100011#8], .undefinedA3), ([0b10100111#8], .undefinedA7), ([0b10101011#8], .undefinedAB),
   ([0b10101111#8], .undefinedAF), ([0b10110010#8], .undefinedB2), ([0b10110011#8], .undefinedB3),
   ([0b10110111#8], .undefinedB7), ([0b10111011#8], .undefinedBB), ([0b10111111#8], .undefinedBF),
   ([0b11000010#8], .undefinedC2), ([0b11000011#8], .undefinedC3), ([0b11000111#8], .undefinedC7),
   ([0b11001011#8], .undefinedCB), ([0b11001111#8], .undefinedCF), ([0b11010010#8], .undefinedD2),
   ([0b11010011#8], .undefinedD3), ([0b11010100#8], .undefinedD4), ([0b11010111#8], .undefinedD7),
   ([0b11011010#8], .undefinedDA), ([0b11011011#8], .undefinedDB), ([0b11011100#8], .undefinedDC),
   ([0b11011111#8], .undefinedDF), ([0b11100010#8], .undefinedE2), ([0b11100011#8], .undefinedE3),
   ([0b11100111#8], .undefinedE7), ([0b11101011#8], .undefinedEB)] ++
  [([0b11101111#8], .undefinedEF), ([0b11110010#8], .undefinedF2), ([0b11110011#8], .undefinedF3),
   ([0b11110100#8], .undefinedF4), ([0b11110111#8], .undefinedF7), ([0b11111010#8], .undefinedFA),
   ([0b11111011#8], .undefinedFB), ([0b11111100#8], .undefinedFC), ([0b11111111#8], .undefinedFF)]

theorem test_decode_wordsUndefined : wordsUndefined.map (fun p => (decode p.1).toOption) = wordsUndefined.map (fun p => some (p.2, [])) := by decide

/-! Decoding refuses only what ends too early (40_decode_and_format.md R52), and table words are laid out low byte first. -/

theorem test_decode_no_byte : decode [] = .error .noOpcode := by rfl
theorem test_decode_one_byte_missing : decode [0xAD#8, 0x34#8] = .error (.operandsMissing 0xAD 2 1) := by rfl
theorem test_tableWord_three_bytes : decodeTableWord 24 0x800020 = some (.jsr 0x00 0x80) := by decide
theorem test_tableWord_operand_zeros : decodeTableWord 8 0x4C = some (.jmpAbsolute 0x00 0x00) := by decide

/-! One step, from 95_test_vectors.md. -/

theorem test_step_S1 : oneStep (load [0xEA] 0) = some (["NOP\n"], 1, some .ok) := by decide
theorem test_step_S3 : oneStep (load [0x20, 0x00, 0x80] 0) = some (["JSR $8000\n"], 3, some .ok) := by decide
theorem test_step_S6_2 : oneStep (load [0x02, 0xFF, 0xFF] 0) = some (["???\n"], 1, some .undefined) := by decide
theorem test_step_S7_1 : oneStep (load [0x4C] 0) = some (["JMP <truncated>\n"], 1, some .truncated) := by decide
theorem test_step_S7_4 : oneStep (load [0xEA, 0x4C, 0x34] 1) = some (["JMP <truncated>\n"], 3, some .truncated) := by decide
theorem test_operands_S7_4 : operandsAfter (load [0xEA, 0x4C, 0x34] 1) = some [0x34] := by decide
theorem test_step_S10_2 : oneStep (load [0x8A, 0x00, 0x20] 0) = some (["TXA\n"], 1, some .ok) := by decide
theorem test_step_V2 : oneStep (load [0xA9, 0xFF] 0) = some (["LDA #$FF\n"], 2, some .ok) := by decide
theorem test_step_V4 : oneStep (load [0xB5, 0xFF] 0) = some (["LDA $FF, X\n"], 2, some .ok) := by decide
theorem test_step_V6 : oneStep (load [0x96, 0x10] 0) = some (["STX $10, Y\n"], 2, some .ok) := by decide
theorem test_step_V8 : oneStep (load [0xBD, 0xFF, 0xFF] 0) = some (["LDA $FFFF, X\n"], 3, some .ok) := by decide
theorem test_step_V24 : oneStep (load [0x01, 0x80] 0) = some (["ORA ($80, X)\n"], 2, some .ok) := by decide
theorem test_step_V25 : oneStep (load [0x51, 0x80] 0) = some (["EOR ($80), Y\n"], 2, some .ok) := by decide
theorem test_step_V27 : oneStep (load [0xD9, 0xFF, 0x00] 0) = some (["CMP $00FF, Y\n"], 3, some .ok) := by decide
theorem test_step_V39 : oneStep (load [0x0A, 0xFF] 0) = some (["ASL A\n"], 1, some .ok) := by decide
theorem test_step_V40 : oneStep (load [0x06, 0x00] 0) = some (["ASL $00\n"], 2, some .ok) := by decide
theorem test_step_V65 : oneStep (load [0x28] 0) = some (["PLP\n"], 1, some .ok) := by decide
theorem test_step_V68 : oneStep (load [0x6C, 0xFC, 0xFF] 0) = some (["JMP ($FFFC)\n"], 3, some .ok) := by decide
theorem test_step_BVS_FE : oneStep (load [0x70, 0xFE] 0) = some (["BVS $FE\n"], 2, some .ok) := by decide
theorem test_step_past_end : oneStep (load [0xEA, 0xEA] 7) = none := by decide
theorem test_step_empty : oneStep (load [] 0) = none := by decide

/-- A call keeps what the host had and adds to it (40_decode_and_format.md R58). -/
theorem test_step_adds_a_line :
    oneStep { load [0x8A, 0xE8] 1 with lines := ["TXA\n"] } = some (["TXA\n", "INX\n"], 2, some .ok) := by decide

/-- A word laid at a cursor inside the buffer (log 4): the step runs it, and the byte before it is still there. -/
theorem test_withFetchWord : oneStep ((load [0x11, 0x22] 1).withFetchWord 24 0x123420) = some (["JSR $1234\n"], 4, some .ok) ∧
    ((load [0x11, 0x22] 1).withFetchWord 24 0x123420).buf.read 0 = some 0x11 := by decide

theorem test_reset_then_word : oneStep (State.reset.withFetchWord 8 0xEA) = some (["NOP\n"], 1, some .ok) := by decide

/-! The port view: 95_test_vectors.md rows P3, P4, P9, P10 and P12. -/

theorem test_ports_P3 : block { w0 := 0xA9, w1 := 0x42, w2 := 0x77, avail := 2 } =
    { status := 0, opcode := 0xA9, mnem := 0x4C4441, mode := 2, needed := 1, nops := 1, op1 := 0x42, op2 := 0x00, length := 2
      text := "LDA #$42" } := by decide
theorem test_ports_P4 : block { w0 := 0xA9, w1 := 0x42, w2 := 0x77, avail := 1 } =
    { status := 2, opcode := 0xA9, mnem := 0x4C4441, mode := 2, needed := 1, nops := 0, op1 := 0x00, op2 := 0x00, length := 1
      text := "LDA <truncated>" } := by decide
theorem test_ports_P9 : block { w0 := 0x02, w1 := 0x00, w2 := 0x00, avail := 3 } =
    { status := 1, opcode := 0x02, mnem := 0x3F3F3F, mode := 0, needed := 0, nops := 0, op1 := 0x00, op2 := 0x00, length := 1
      text := "???" } := by decide
theorem test_ports_P10 : block { w0 := 0x11, w1 := 0x22, w2 := 0x33, avail := 0 } =
    { status := 3, opcode := 0x00, mnem := 0x000000, mode := 0, needed := 0, nops := 0, op1 := 0x00, op2 := 0x00, length := 0
      text := "" } := by decide
theorem test_ports_P12 : block { w0 := 0x6C, w1 := 0xFC, w2 := 0xFF, avail := 3 } =
    { status := 0, opcode := 0x6C, mnem := 0x4A4D50, mode := 10, needed := 2, nops := 2, op1 := 0xFC, op2 := 0xFF, length := 3
      text := "JMP ($FFFC)" } := by decide

/-! Operands and memory. -/

theorem test_word16 : word16 0x34 0x12 = 0x1234#16 := by decide
theorem test_relative_target_backward : relativeTarget 9 0xF7 = 2 := by decide
theorem test_relative_target_forward : relativeTarget 0 0x7F = 129 := by decide
theorem test_memory_put_grows : ((Memory.ofBytes [0x01]).put 2 0x05).bytes = [0x01, 0x00, 0x05] := by decide
theorem test_memory_put_zero_unlists : ((Memory.ofBytes [0x01, 0x02]).put 1 0x00).cells = [(0, 0x01)] := by decide

/-! Well-formedness: for each check of WellFormed.lean, an ill-formed record that it refuses, and well-formed ones it takes. -/

/-- `LDA $34` as 10_state.md R20 has it. -/
def okRecord : Decoded :=
  { opcode := 0xA5, mnemonic := .lda, mode := .zeroPage, needed := 1, operands := [0x34], length := 2 }

/-- 0x4C with one of its two operand bytes. -/
def truncatedRecord : Decoded :=
  { opcode := 0x4C, mnemonic := .jmp, mode := .absolute, needed := 2, operands := [0x34], length := 2 }

theorem test_wf_records : (Result.ok okRecord).wf ∧ (Result.truncated truncatedRecord).wf ∧
    (Result.undefined (undefinedRecord 0x02)).wf ∧ Result.invalid.wf := by decide
theorem test_wf_instr : (Instr.ldaZeroPage 0x34).wf := by decide
theorem smoke_ok_undefined_opcode : (Result.ok { okRecord with opcode := 0x02 }).wf = false := by decide
theorem smoke_ok_mnemonic : (Result.ok { okRecord with mnemonic := .ldx }).wf = false := by decide
theorem smoke_ok_mode : (Result.ok { okRecord with mode := .zeroPageX }).wf = false := by decide
theorem smoke_ok_needed : (Result.ok { okRecord with needed := 2 }).wf = false := by decide
theorem smoke_ok_operands : (Result.ok { okRecord with operands := [] }).wf = false := by decide
theorem smoke_ok_length : (Result.ok { okRecord with length := 3 }).wf = false := by decide
theorem smoke_undefined_defined_opcode : (Result.undefined (undefinedRecord 0xEA)).wf = false := by decide
theorem smoke_undefined_mnemonic :
    (Result.undefined { undefinedRecord 0x02 with mnemonic := .nop }).wf = false := by decide
theorem smoke_undefined_mode :
    (Result.undefined { undefinedRecord 0x02 with mode := .immediate }).wf = false := by decide
theorem smoke_undefined_needed : (Result.undefined { undefinedRecord 0x02 with needed := 1 }).wf = false := by decide
theorem smoke_undefined_operands :
    (Result.undefined { undefinedRecord 0x02 with operands := [0xFF] }).wf = false := by decide
theorem smoke_undefined_length : (Result.undefined { undefinedRecord 0x02 with length := 2 }).wf = false := by decide
theorem smoke_truncated_undefined_opcode : (Result.truncated { truncatedRecord with opcode := 0x02 }).wf = false := by decide
theorem smoke_truncated_mnemonic : (Result.truncated { truncatedRecord with mnemonic := .jsr }).wf = false := by decide
theorem smoke_truncated_mode : (Result.truncated { truncatedRecord with mode := .indirect }).wf = false := by decide
theorem smoke_truncated_needed : (Result.truncated { truncatedRecord with needed := 3 }).wf = false := by decide
theorem smoke_truncated_whole :
    (Result.truncated { truncatedRecord with operands := [0x34, 0x12], length := 3 }).wf = false := by decide
theorem smoke_truncated_length : (Result.truncated { truncatedRecord with length := 3 }).wf = false := by decide
theorem smoke_memory_order : ({ len := 3, cells := [(1, 0x01), (0, 0x02)] } : Memory).wf = false := by decide
theorem smoke_memory_repeat : ({ len := 3, cells := [(1, 0x01), (1, 0x02)] } : Memory).wf = false := by decide
theorem smoke_memory_unlisted : ({ len := 3, cells := [(1, 0x00)] } : Memory).wf = false := by decide
theorem smoke_memory_outside : ({ len := 3, cells := [(3, 0x01)] } : Memory).wf = false := by decide
theorem smoke_line : emittedLine "LDA $0F" = false ∧ emittedLine "LDA\n\n" = false ∧
    emittedLine "LDA <truncated>!\n" = false ∧ emittedLine "LDA <truncated>\n" = true := by decide

/-! Witnesses. A row statement has four clauses about the state: bytes at the cursor, a whole instruction that just fits, one
that the buffer ends inside, and no opcode to read. A one-byte row can't be truncated, so no state meets the third clause
(60_exceptions.md R123). -/

/-- The hypotheses of the clauses of `RowRuns` for a row with operand bytes: it ends exactly at the end of the buffer, or one
byte past it; only the opcode is left; and the cursor is at the end. -/
def rowClauses (op : Byte) (ops : List Byte) : Bool :=
  let whole := load (op :: ops) 0
  let short := load (0xEA :: op :: ops.dropLast) 1
  let bare := load [op] 0
  let atEnd := load (op :: ops) (1 + ops.length)
  decide (whole.off < whole.buf.len ∧ whole.buf.holds whole.off (op :: ops)) &&
  decide (short.off < short.buf.len ∧ short.buf.holds short.off (op :: ops)) &&
  decide (whole.off + (1 + ops.length) = whole.buf.len) &&
  decide (short.off < short.buf.len ∧ short.buf.len + 1 = short.off + (1 + ops.length)) &&
  decide (bare.off < bare.buf.len ∧ bare.buf.len < bare.off + (1 + ops.length)) &&
  decide (atEnd.buf.len = atEnd.off)

/-- The same for a row of one byte: it fits at the last index, and the cursor is at the end. -/
def oneByteClauses (op : Byte) : Bool :=
  let last := load [0xEA, op] 1
  decide (last.off < last.buf.len ∧ last.buf.holds last.off [op] ∧ last.off + 1 = last.buf.len) &&
  decide ((load [op] 1).buf.len = (load [op] 1).off)

theorem witness_LoadAndStoreRowsRun : rowClauses 0xA9 [0x42] ∧ rowClauses 0xAD [0x34, 0x12] := by decide
theorem witness_AluRowsRun : rowClauses 0x69 [0x42] ∧ rowClauses 0xCD [0x34, 0x12] := by decide
theorem witness_ReadModifyWriteRowsRun : rowClauses 0x06 [0x42] ∧ rowClauses 0xEE [0x34, 0x12] ∧ oneByteClauses 0x0A := by decide
theorem witness_RegisterRowsRun : oneByteClauses 0x8A := by decide
theorem witness_StackRowsRun : oneByteClauses 0x48 := by decide
theorem witness_JumpAndBreakRowsRun : rowClauses 0x4C [0x34, 0x12] ∧ oneByteClauses 0x60 := by decide
theorem witness_BranchRowsRun : rowClauses 0xD0 [0xF7] := by decide
theorem witness_FlagAndNopRowsRun : oneByteClauses 0xEA := by decide
theorem witness_UndefinedValuesRun : oneByteClauses 0x02 ∧ (load [0xEA, 0x02] 1).buf.byteAt 1 = 0x02 := by decide

theorem witness_OperandCountPerMode : TABLE 0xA5#8 = some { mnemonic := .lda, mode := .zeroPage } := by decide
theorem witness_EncodeOfDecode : (decode [0xAD#8, 0x34#8, 0x12#8, 0x02#8]).toOption = some (.ldaAbsolute 0x34 0x12, [0x02]) := by
  decide
theorem witness_DecodeRefusesOnlyShortInput :
    (([] : List Byte) = [] ∧ Reject.noOpcode = .noOpcode) ∧
    ([0x34#8].length < neededBy 0xAD#8 ∧ ([] : List Byte).length < neededBy 0xA9#8) := by decide
theorem witness_LengthFromOpcodeAlone :
    (decode (0xA9#8 :: [0x42#8, 0x02#8])).toOption = some (.ldaImmediate 0x42, [0x02]) ∧
    (decode (0x02#8 :: [])).toOption = some (.undefined02, []) ∧
    (load [0xA9, 0x42] 0).off + instructionLength ((load [0xA9, 0x42] 0).buf.byteAt 0) = (load [0xA9, 0x42] 0).buf.len ∧
    (nextState? (step (load [0xA9, 0x42] 0))).isSome := by decide
theorem witness_OkTextDeterminesRecord :
    (Result.ok okRecord).wf = true ∧ (Result.ok okRecord).text = (Result.ok okRecord).text := by decide
theorem witness_LowByteFirst : opCount .indirect = 2 ∧
    (load [0x20, 0x00, 0x80] 0).off + 3 = (load [0x20, 0x00, 0x80] 0).buf.len ∧
    (load [0x20, 0x00, 0x80] 0).buf.slice 0 3 = [0x20, 0x00, 0x80] := by decide
theorem witness_HexSpelling : hex2 0x0F = hex2 0x0F := by decide
theorem witness_StepRunsDecodedInstruction :
    (decode ((load [0xEA, 0x20, 0x00, 0x80] 1).buf.slice 1 4)).toOption = some (.jsr 0x00 0x80, []) := by decide
theorem witness_StepFollowsDecodeAlgorithm :
    (load [0xEA, 0xAD] 1).off < (load [0xEA, 0xAD] 1).buf.len ∧ (load [0xEA] 1).buf.len = (load [0xEA] 1).off := by decide
theorem witness_NormalDecode : TABLE ((load [0xA9, 0x42] 0).buf.byteAt 0) = some { mnemonic := .lda, mode := .immediate } ∧
    (load [0xA9, 0x42] 0).off + 1 + opCount .immediate = (load [0xA9, 0x42] 0).buf.len := by decide
theorem witness_TruncatedDecode : TABLE ((load [0xAD, 0x34] 0).buf.byteAt 0) = some { mnemonic := .lda, mode := .absolute } ∧
    (load [0xAD, 0x34] 0).off < (load [0xAD, 0x34] 0).buf.len ∧
    (load [0xAD, 0x34] 0).buf.len + 1 = (load [0xAD, 0x34] 0).off + 1 + opCount .absolute ∧
    (load [0xAD] 0).off + 1 = (load [0xAD] 0).buf.len := by decide
theorem witness_UndefinedDecode : TABLE ((load [0xEA, 0x02] 1).buf.byteAt 1) = none ∧
    (load [0xEA, 0x02] 1).off + 1 = (load [0xEA, 0x02] 1).buf.len := by decide
theorem witness_InvalidCallIsHostFault : (load [] 0).buf.len = 0 ∧ (load [0xEA] 1).buf.len = (load [0xEA] 1).off := by decide
theorem witness_EveryCallHasOneResult : (load [0xEA] 0).validCall ∧ ¬ (load [0xEA] 1).validCall := by decide
theorem witness_ForwardProgress : 1 < (Memory.ofBytes [0xEA, 0x4C]).len ∧ 2 = (Memory.ofBytes [0xEA, 0x4C]).len := by decide
theorem witness_LengthConsistency : 0 < (Memory.ofBytes [0x4C, 0x00, 0x80]).len ∧
    TABLE ((Memory.ofBytes [0x4C, 0x00, 0x80]).byteAt 0) = some { mnemonic := .jmp, mode := .absolute } ∧
    0 + (1 + opCount .absolute) = (Memory.ofBytes [0x4C, 0x00, 0x80]).len ∧
    (decodeCall (Memory.ofBytes [0x4C, 0x00]) 0).status = .truncated := by decide
theorem witness_ReadsAreExactlyTheListed : callReads (Memory.ofBytes [0xA9, 0x42, 0x11]) 0 = [0, 1] ∧
    (Memory.ofBytes [0xA9, 0x42, 0x22]).len = (Memory.ofBytes [0xA9, 0x42, 0x11]).len ∧
    (∀ a ∈ callReads (Memory.ofBytes [0xA9, 0x42, 0x11]) 0,
      (Memory.ofBytes [0xA9, 0x42, 0x22]).byteAt a = (Memory.ofBytes [0xA9, 0x42, 0x11]).byteAt a) ∧
    Memory.ofBytes [0xA9, 0x42, 0x22] ≠ Memory.ofBytes [0xA9, 0x42, 0x11] ∧
    callReads (Memory.ofBytes [0xAD, 0x34]) 0 = [0, 1] ∧ callReads (Memory.ofBytes [0xAD, 0x34, 0x12]) 0 = [0, 1, 2] := by decide
theorem witness_CallsArePure :
    let s := load [0xA9, 0x42] 0
    let t := { s with lines := ["NOP\n"], result := some .invalid }
    s ≠ t ∧ (∀ a, s.buf.read a = t.buf.read a) ∧ s.off = t.off ∧
    (nextState? (step s)).isSome ∧ (nextState? (step t)).isSome := by
  refine ⟨by decide, fun _ => rfl, rfl, by decide, by decide⟩
theorem witness_OutcomeChangesNothing :
    ∃ t u, nextState? (step (load [0x02, 0xEA] 0)) = some t ∧ u.buf = t.buf ∧ u.off = t.off ∧ u ≠ t ∧
      (nextState? (step u)).isSome := by
  refine ⟨{ load [0x02, 0xEA] 1 with lines := ["???\n"], result := some (.undefined (undefinedRecord 0x02)) },
    load [0x02, 0xEA] 1, ?_⟩
  decide
theorem witness_HostResumesAfterOutcome :
    oneStep (load [0x02] 0) = some (["???\n"], 1, some .undefined) ∧
    oneStep (load [0x4C] 0) = some (["JMP <truncated>\n"], 1, some .truncated) ∧
    oneStep (load [0xEA] 0) = some (["NOP\n"], 1, some .ok) := by decide
theorem witness_OneRecordOneLine : (nextState? (step (load [0x8A, 0x8C] 0))).isSome ∧
    (load [0x8A, 0x8C] 0).buf.byteAt 0 = 0x8A := by decide
theorem witness_InstructionFrame : (nextState? (exec (.jsr 0x00 0x80) (load [0x20, 0x00, 0x80] 0))).isSome ∧
    (nextState? (exec .undefined02 (load [0x02] 0))).isSome := by decide
theorem witness_OutsideWindowBytesDoNotMatter :
    let v : Window := { w0 := 0xA9, w1 := 0x42, w2 := 0x00, avail := 2 }
    let w : Window := { w0 := 0xA9, w1 := 0x42, w2 := 0x77, avail := 2 }
    v ≠ w ∧ v.avail = w.avail ∧ (1 ≤ v.avail.val → v.w0 = w.w0) ∧ (2 ≤ v.avail.val → v.w1 = w.w1) ∧
    (3 ≤ v.avail.val → v.w2 = w.w2) := by decide
theorem witness_PortFills :
    let none3 : Window := { w0 := 0x11, w1 := 0x22, w2 := 0x33, avail := 0 }
    let undef : Window := { w0 := 0x02, w1 := 0x22, w2 := 0x33, avail := 1 }
    let jmp (k : Fin 4) : Window := { w0 := 0x4C, w1 := 0x00, w2 := 0x80, avail := k }
    none3.avail.val = 0 ∧ undef.avail.val ≠ 0 ∧ TABLE undef.w0 = none ∧
    (jmp 1).avail.val ≠ 0 ∧ TABLE (jmp 1).w0 = some { mnemonic := .jmp, mode := .absolute } ∧
    (block (jmp 1)).nops = 0#2 ∧ 1 ≤ (block (jmp 2)).nops.toNat ∧ (block (jmp 2)).nops ≠ 2#2 ∧
    (block (jmp 3)).nops = 2#2 ∧ mnemonicBits .lda = mnemonicBits .lda := by decide
theorem witness_StepKeepsInvariant : (load [0xA9, 0x42] 0).Inv ∧ (nextState? (step (load [0xA9, 0x42] 0))).isSome :=
  ⟨⟨by decide, by decide, by simp [load], by simp [load], by simp [load]⟩, by decide⟩
theorem witness_IndexArithmeticBound : (Memory.ofBytes [0xEA, 0x4C]).len ≤ 2 ∧ 1 < (Memory.ofBytes [0xEA, 0x4C]).len ∧
    1 < neededBy ((Memory.ofBytes [0xEA, 0x4C]).byteAt 1) ∧ 1 ∈ callReads (Memory.ofBytes [0xEA, 0x4C]) 1 := by decide
theorem witness_TableWordRuns : decodeTableWord 16 0x42A9 = some (.ldaImmediate 0x42) ∧
    0 < (load [0x11, 0x22] 1).off ∧ (load [0x11, 0x22] 1).off + 3 ≤ 4 := by decide
/-- Both ways the length can go: a word past the end makes the buffer grow, one inside it does not. -/
theorem test_withFetchWord_length : ((load [0x11] 0).withFetchWord 8 0xEA).buf.bytes = [0xEA, 0x00, 0x00] ∧
    ((load [0x11, 0x22, 0x33, 0x44] 0).withFetchWord 8 0xEA).buf.bytes = [0xEA, 0x00, 0x00, 0x44] := by decide
/-- R56: `F` is uppercase, and a digit below ten is itself (92_eei_decisions.md D7). -/
theorem test_hex2_digits : hex2 0x12 = "12" ∧ hex2 0xCD = "CD" ∧ hex2 0xEF = "EF" := by decide

end Sys2Proof.Tests
end

/-! The bytes one call reads (20_memory.md R29), and that the step is the call at the cursor (40_decode_and_format.md R48,
R58). What follows says nothing of a step but through `step_eq_conclude_decodeCall`. -/

namespace Sys2Proof.Machine

/-- A slice from `i` on, cut to `k` bytes. -/
theorem Memory.take_slice (m : Memory) (i n k : Nat) :
    (m.slice i (i + n)).take k = m.slice i (i + min k n) := by
  refine List.ext_getElem (by simp) fun j _ _ => ?_
  rw [List.getElem_take, Memory.getElem_slice, Memory.getElem_slice]

/-- Buffers that agree on the indices of a slice have the same slice. -/
theorem Memory.slice_congr {m m' : Memory} {i j : Nat} (h : ∀ a, i ≤ a → a < j → m.byteAt a = m'.byteAt a) :
    m.slice i j = m'.slice i j := by
  refine List.map_congr_left fun a ha => ?_
  have := List.mem_range'_1.1 ha
  exact h a (by omega) (by omega)

theorem mem_callReads {buf : Memory} {off a : Nat} :
    a ∈ callReads buf off ↔ off < buf.len ∧ off ≤ a ∧ a < off + (1 + operandsRead buf off) := by
  unfold callReads
  split <;> simp [List.mem_range'_1, *]

theorem callReads_length_le (buf : Memory) (off : Nat) : (callReads buf off).length ≤ 1 + neededBy (buf.byteAt off) := by
  unfold callReads operandsRead
  split <;> simp

theorem operandsRead_of_table {buf : Memory} {off : Nat} {e : TableEntry} (hT : TABLE (buf.byteAt off) = some e) :
    operandsRead buf off = min (opCount e.mode) (buf.len - off - 1) := by
  rw [operandsRead, neededBy_of_table hT]

/-- The call on a defined opcode is the shared operation on the bytes after the opcode, whether or not they all lie inside
the buffer. -/
theorem decodeCall_eq_definedResult {buf : Memory} {off : Nat} {e : TableEntry} (hv : off < buf.len)
    (hT : TABLE (buf.byteAt off) = some e) :
    decodeCall buf off = definedResult (buf.byteAt off) e.mnemonic e.mode
      (buf.slice (off + 1) (off + 1 + opCount e.mode)) buf.len off := by
  have hlen : (buf.slice (off + 1) (off + 1 + opCount e.mode)).length = opCount e.mode := by simp
  by_cases hfit : off + 1 + opCount e.mode ≤ buf.len
  case pos =>
    rw [decodeCall_ok hT hfit, definedResult_ok _ _ hlen (by omega), hlen]
  case neg =>
    have hpresent : min (buf.len - off - 1) (opCount e.mode) = buf.len - (off + 1) := by omega
    rw [decodeCall_truncated hT hv (by omega), definedResult_truncated _ _ hlen hv (by omega), hlen, Memory.take_slice,
      hpresent, Nat.add_sub_cancel' hv]

/-- The operand bytes `fetch` hands to an instruction are the buffer's as far as the call reads. -/
theorem take_operandBytes (buf : Memory) (off : Nat) {n k : Nat} (hn : n ≤ 2) (hk : k ≤ operandsRead buf off) :
    ([operandByte buf off 0, operandByte buf off 1].take n).take k = (buf.slice (off + 1) (off + 1 + n)).take k := by
  apply List.ext_getElem
  · simp; omega
  · intro i hi _
    have hread : i < operandsRead buf off := by simp at hi; omega
    have hi2 : i = 0 ∨ i = 1 := by simp at hi; omega
    simp only [List.getElem_take, Memory.getElem_slice, ← operandByte_read hread]
    obtain rfl | rfl := hi2 <;> rfl

/-- The step is the decode call at the cursor and the host's taking of its result, in every state. -/
theorem step_eq_conclude_decodeCall (s : State) : step s = conclude (decodeCall s.buf s.off) s := by
  by_cases hv : s.off < s.buf.len
  case neg =>
    rw [step_of_end (by omega), decodeCall_invalid (by omega), conclude]
  case pos =>
    rw [step_of_validCall hv, exec_instrOf]
    cases hT : TABLE (s.buf.byteAt s.off) with
    | none => simp only [decodeCall_undefined hv hT, undefinedCall, undefinedResult, if_pos hv]
    | some e =>
      rw [decodeCall_eq_definedResult hv hT]
      refine congrArg (conclude · s) (definedResult_congr_take _ _ _ ?_)
      exact take_operandBytes _ _ (opCount_le e.mode) (operandsRead_of_table hT).ge

/-- A call is a function of the buffer's length and the bytes it reads. -/
theorem decodeCall_congr_reads {buf buf' : Memory} {off : Nat} (hlen : buf'.len = buf.len)
    (hreads : ∀ a ∈ callReads buf off, buf'.byteAt a = buf.byteAt a) : decodeCall buf' off = decodeCall buf off := by
  by_cases hv : off < buf.len
  case neg => rw [decodeCall_invalid (by omega), decodeCall_invalid (by omega)]
  case pos =>
    have hop : buf'.byteAt off = buf.byteAt off := hreads off (mem_callReads.2 ⟨hv, by omega, by omega⟩)
    cases hT : TABLE (buf.byteAt off) with
    | none => rw [decodeCall_undefined hv hT, decodeCall_undefined (hlen ▸ hv) (hop ▸ hT), hop]
    | some e =>
      rw [decodeCall_eq_definedResult hv hT, decodeCall_eq_definedResult (hlen ▸ hv) (hop ▸ hT), hop, hlen]
      refine definedResult_congr_take _ _ _ ?_
      rw [Memory.take_slice, Memory.take_slice]
      refine Memory.slice_congr fun a _ _ => hreads a (mem_callReads.2 ⟨hv, by omega, ?_⟩)
      rw [operandsRead_of_table hT]
      omega

/-- Settles O34. The indices are an interval of one opcode and at most two operand bytes; the call is a function of the bytes
there (`decodeCall_congr_reads`) and the step is the call. -/
theorem readsAreExactlyTheListed : Obligations.ReadsAreExactlyTheListed := by
  intro buf off
  have hneed := neededBy_le (buf.byteAt off)
  refine ⟨fun a => ?_, ?_, fun a ha => ?_, fun buf' hlen hreads => ⟨decodeCall_congr_reads hlen hreads, fun _ _ => ?_⟩⟩
  · rw [mem_callReads, operandsRead]
    omega
  · have := callReads_length_le buf off
    omega
  · rw [mem_callReads, operandsRead] at ha
    omega
  · rw [step_eq_conclude_decodeCall, decodeCall_congr_reads hlen hreads]

end Sys2Proof.Machine

/-! A call writes nothing and depends on the buffer's contents and the offset alone (20_memory.md R30). -/

namespace Sys2Proof.Machine

/-- A step that goes on delivered the call's result at the cursor. -/
theorem eq_deliver_of_step_eq_next {s t : State} (h : step s = .next t) :
    t = s.deliver (decodeCall s.buf s.off) := by
  rw [step_eq_conclude_decodeCall] at h
  exact (conclude_eq_next.1 h).2

theorem Memory.read_isSome {m : Memory} {a : Nat} : (m.read a).isSome ↔ a < m.len := by
  unfold Memory.read
  split <;> simp [*]

/-- Buffers with equal contents are equally long: the indices that can be read are those below the length. -/
theorem Memory.len_eq_of_read_eq {m m' : Memory} (h : ∀ a, m.read a = m'.read a) : m.len = m'.len := by
  have hlt : ∀ a, a < m.len ↔ a < m'.len := fun a => by rw [← Memory.read_isSome, h, Memory.read_isSome]
  have := hlt m.len
  have := hlt m'.len
  omega

/-- Buffers with equal contents give equal results at equal offsets. -/
theorem decodeCall_congr_read {buf buf' : Memory} (h : ∀ a, buf'.read a = buf.read a) (off : Nat) :
    decodeCall buf' off = decodeCall buf off := by
  have hlen := Memory.len_eq_of_read_eq h
  refine decodeCall_congr_reads hlen fun a ha => ?_
  rw [mem_callReads, operandsRead] at ha
  exact Memory.byteAt_eq_of_read_eq (h a) (by omega) (by omega)

/-- Settles O35. Both steps deliver the result of one and the same call. -/
theorem callsArePure : Obligations.CallsArePure := by
  intro s t s' t' hread hoff hs ht
  have hcall : decodeCall t.buf t.off = decodeCall s.buf s.off := by
    rw [← hoff]
    exact decodeCall_congr_read (fun a => (hread a).symm) s.off
  rw [eq_deliver_of_step_eq_next hs, eq_deliver_of_step_eq_next ht, hcall]
  exact ⟨rfl, rfl, rfl, congrArg (· + _) hoff, _, rfl, rfl⟩

end Sys2Proof.Machine

/-! A two-byte operand is low byte first in the buffer and high byte first in the text (20_memory.md R26). -/

namespace Sys2Proof.Machine

theorem word16_toNat (l h : Byte) : (word16 l h).toNat = h.toNat * 256 + l.toNat := by
  have hhigh := congrArg BitVec.toNat (word16_high l h)
  have hlow := congrArg BitVec.toNat (word16_low l h)
  simp only [BitVec.extractLsb'_toNat, Nat.shiftRight_eq_div_pow] at hhigh hlow
  omega

theorem operandValue_two {mode : AddressingMode} (hn : opCount mode = 2) (l h : Byte) :
    operandValue mode [l, h] = .word (word16 l h) := by
  simp only [operandValue, hn]

theorem jsr_runs (l h : Byte) :
    RowRuns (.jsr l h) 0x20#8 .jsr .absolute [l, h] "JSR" (" $" ++ hex2 h ++ hex2 l) :=
  rowRuns_of_table rfl rfl rfl rfl (fun _ => rfl) rfl (textTail_absolute l h)

/-- A JSR that fits in the buffer emits its target with the second operand byte printed first. -/
theorem step_jsr {s : State} {l h : Byte} (hfit : s.off + 3 ≤ s.buf.len)
    (hbytes : s.buf.slice s.off (s.off + 3) = [0x20#8, l, h]) :
    ∃ t, step s = .next t ∧ t.lines = s.lines ++ ["JSR $" ++ hex2 h ++ hex2 l ++ "\n"] := by
  obtain ⟨-, -, hrun⟩ := jsr_runs l h
  obtain ⟨hstep, hwhole, -⟩ := hrun s
  have hholds : s.buf.holds s.off [0x20#8, l, h] := by
    have hlen : [0x20#8, l, h].length = 3 := rfl
    rw [Memory.holds, hlen, Nat.min_eq_right hfit, List.take_of_length_le (by omega), hbytes]
  refine ⟨_, (hstep (by omega) hholds).trans (hwhole hfit), ?_⟩
  simp [← String.toList_inj]

/-- Settles O11, with `step_jsr` for the buffer and the text together. -/
theorem lowByteFirst : Obligations.LowByteFirst := by
  intro l h
  exact ⟨word16_toNat l h, fun mode hn => operandValue_two hn l h, hex4_word16 l h, fun s => step_jsr, by decide⟩

end Sys2Proof.Machine

/-! The opcode byte alone fixes an instruction's length (30_encoding.md R37, R39): in the table, for the byte decoder, and for
a call on a buffer that holds the whole instruction. -/

namespace Sys2Proof.Machine

theorem instructionLength_of_table {op : Byte} {e : TableEntry} (hT : TABLE op = some e) :
    instructionLength op = 1 + opCount e.mode := by
  rw [instructionLength, neededBy_of_table hT]

theorem instructionLength_of_undefined {op : Byte} (hT : TABLE op = none) : instructionLength op = 1 := by
  rw [instructionLength, neededBy_of_undefined hT]

/-- The byte decoder takes an opcode whose operand bytes are all there, and no others. -/
theorem decode_cons_eq_ok {op : Byte} {tail rest : List Byte} {i : Instr} :
    decode (op :: tail) = .ok (i, rest) ↔
      neededBy op ≤ tail.length ∧ i = instrOf op (tail.getD 0 0) (tail.getD 1 0) ∧ rest = tail.drop (neededBy op) := by
  rw [decode]
  split
  case isTrue hshort => simp [hshort]
  case isFalse hwhole => simp [Nat.not_lt.1 hwhole, eq_comm]

theorem length_of_decode_cons {op : Byte} {tail rest : List Byte} {i : Instr} (h : decode (op :: tail) = .ok (i, rest)) :
    (op :: tail).length = instructionLength op + rest.length := by
  obtain ⟨hwhole, -, rfl⟩ := decode_cons_eq_ok.1 h
  rw [List.length_cons, List.length_drop, instructionLength]
  omega

/-- A call on a whole instruction consumes the length its opcode byte gives. -/
theorem decodeCall_length_of_whole {buf : Memory} {off : Nat}
    (hwhole : off + instructionLength (buf.byteAt off) ≤ buf.len) :
    (decodeCall buf off).length = instructionLength (buf.byteAt off) := by
  cases hT : TABLE (buf.byteAt off) with
  | none =>
    rw [instructionLength_of_undefined hT] at hwhole ⊢
    rw [decodeCall_undefined hwhole hT]
    rfl
  | some e =>
    rw [instructionLength_of_table hT] at hwhole ⊢
    rw [decodeCall_ok hT (by omega)]
    rfl

/-- Settles O9. The table gives the length, and the byte decoder and the call both consume it. -/
theorem lengthFromOpcodeAlone : Obligations.LengthFromOpcodeAlone := by
  refine ⟨fun op => ?_, fun _ _ _ _ => length_of_decode_cons, fun s t hwhole h => ?_⟩
  · cases hT : TABLE op with
    | none => exact instructionLength_of_undefined hT
    | some e => exact instructionLength_of_table hT
  · rw [eq_deliver_of_step_eq_next h, State.deliver_off, decodeCall_length_of_whole hwhole]

/-- Settles O4. The counts are `opCount`'s own rows; the length follows for every entry of the table. -/
theorem operandCountPerMode : Obligations.OperandCountPerMode :=
  ⟨rfl, rfl, rfl, rfl, rfl, rfl, rfl, rfl, rfl, rfl, rfl, rfl, rfl, fun _ _ => instructionLength_of_table⟩

/-- Settles O2, by reading the table; the operand bytes of 0xEA and 0x4C follow from their rows. -/
theorem pinnedRows : Obligations.PinnedRows := by
  have hnop : TABLE 0xEA#8 = some { mnemonic := .nop, mode := .implicit } := rfl
  have hjmp : TABLE 0x4C#8 = some { mnemonic := .jmp, mode := .absolute } := rfl
  exact ⟨congrArg _ hnop, neededBy_of_table hnop, rfl, rfl, rfl, hjmp, neededBy_of_table hjmp, rfl, rfl,
    rfl, rfl, rfl, rfl, rfl⟩

end Sys2Proof.Machine

/-! One call of `decode` as the spec states it (40_decode_and_format.md R48, R51, R61, R63): what the step does with it, its
record when the instruction is whole, the length it reports, and its one line. -/

namespace Sys2Proof.Machine

theorem decodeCall_ne_invalid {buf : Memory} {off : Nat} (hv : off < buf.len) : decodeCall buf off ≠ .invalid := by
  cases hT : TABLE (buf.byteAt off) with
  | none => simp [decodeCall_undefined hv hT]
  | some e =>
    rw [decodeCall_eq_definedResult hv hT]
    exact definedResult_ne_invalid _ _ _ _ hv

/-- With an opcode to read, the step goes on and delivers the call's result. -/
theorem step_eq_deliver {s : State} (hv : s.off < s.buf.len) : step s = .next (s.deliver (decodeCall s.buf s.off)) := by
  rw [step_eq_conclude_decodeCall, conclude_of_ne (decodeCall_ne_invalid hv)]

theorem off_lt_len_of_step_eq_next {s t : State} (h : step s = .next t) : s.off < s.buf.len := by
  refine Nat.lt_of_not_le fun hend => ?_
  rw [step_of_end hend] at h
  cases h

/-- Settles O24, by `step_eq_deliver`. That the rows' meanings give the algorithm's result is `step_eq_conclude_decodeCall`. -/
theorem stepFollowsDecodeAlgorithm : Obligations.StepFollowsDecodeAlgorithm :=
  fun _ => ⟨step_eq_deliver, fun hend => decodeCall_invalid (by omega)⟩

/-- Settles O25. The step delivers the record `decodeCall_ok` gives. -/
theorem normalDecode : Obligations.NormalDecode := by
  intro s e hT hfit
  rw [step_eq_deliver (by omega), decodeCall_ok hT hfit]
  simp only [State.deliver, Result.length, Nat.add_assoc]

/-- A call that the buffer ends inside is on a defined opcode, and is `Truncated`; it consumes the rest of the buffer. -/
theorem decodeCall_of_short {buf : Memory} {off : Nat} (hv : off < buf.len)
    (hshort : buf.len < off + instructionLength (buf.byteAt off)) :
    (decodeCall buf off).length = buf.len - off ∧ (decodeCall buf off).status = .truncated := by
  cases hT : TABLE (buf.byteAt off) with
  | none =>
    rw [instructionLength_of_undefined hT] at hshort
    omega
  | some e =>
    rw [instructionLength_of_table hT] at hshort
    rw [decodeCall_truncated hT hv (by omega)]
    exact ⟨rfl, rfl⟩

theorem decodeCall_status_ne_truncated_of_whole {buf : Memory} {off : Nat}
    (hwhole : off + instructionLength (buf.byteAt off) ≤ buf.len) : (decodeCall buf off).status ≠ .truncated := by
  cases hT : TABLE (buf.byteAt off) with
  | none =>
    rw [instructionLength_of_undefined hT] at hwhole
    simp [decodeCall_undefined hwhole hT, Result.status]
  | some e =>
    rw [instructionLength_of_table hT] at hwhole
    simp [decodeCall_ok hT (show off + 1 + opCount e.mode ≤ buf.len by omega), Result.status]

/-- Settles O33. A whole instruction is reported at its opcode's length and is not `Truncated`; one the buffer ends inside is
reported shorter and is. -/
theorem lengthConsistency : Obligations.LengthConsistency := by
  intro buf off hv
  refine ⟨fun e hT hfit => ?_, ?_⟩
  · rw [decodeCall_ok hT (by omega)]
    exact ⟨rfl, rfl⟩
  · by_cases hwhole : off + instructionLength (buf.byteAt off) ≤ buf.len
    case pos => simp [decodeCall_length_of_whole hwhole, decodeCall_status_ne_truncated_of_whole hwhole]
    case neg =>
      obtain ⟨hlen, hstatus⟩ := decodeCall_of_short hv (Nat.lt_of_not_le hwhole)
      simp only [hlen, hstatus, iff_true]
      omega

theorem Result.line?_of_ne_invalid {r : Result} (h : r ≠ .invalid) : r.line? = some (r.text ++ "\n") := by
  cases r with
  | ok | undefined | truncated => rfl
  | invalid => exact absurd rfl h

/-- 0x8A is `TXA` alone, whatever byte follows it. -/
theorem decodeCall_txa {buf : Memory} {off : Nat} (hv : off < buf.len) (hop : buf.byteAt off = 0x8A#8) :
    decodeCall buf off =
      .ok { opcode := 0x8A#8, mnemonic := .txa, mode := .implicit, needed := 0, operands := [], length := 1 } := by
  have hT : TABLE (buf.byteAt off) = some { mnemonic := .txa, mode := .implicit } := by rw [hop]; rfl
  have hnone : buf.slice (off + 1) (off + 1 + opCount .implicit) = [] := List.length_eq_zero_iff.1 (by simp [opCount])
  rw [decodeCall_ok hT hv, hop, hnone]
  rfl

/-- Settles O38. A step that goes on delivered one call's result, which has a line; at 0x8A that call is `decodeCall_txa`. -/
theorem oneRecordOneLine : Obligations.OneRecordOneLine := by
  intro s t h
  have hv := off_lt_len_of_step_eq_next h
  rw [eq_deliver_of_step_eq_next h]
  refine ⟨⟨_, rfl, Result.line?_of_ne_invalid (decodeCall_ne_invalid hv), rfl⟩, fun hop => ?_⟩
  rw [decodeCall_txa hv hop]
  exact ⟨rfl, rfl, rfl⟩

end Sys2Proof.Machine

/-! How a call ends (60_exceptions.md R125, R126, R129): with one of four results told apart by their tags, none of which stops
the block, and where the host goes on after it. -/

namespace Sys2Proof.Machine

/-- Every instruction's meaning is one call's result taken by the host: each arm is `definedCall` or `undefinedCall`. -/
theorem exec_eq_conclude (i : Instr) (s : State) : ∃ r, exec i s = conclude r s := by
  cases i <;> exact ⟨_, rfl⟩

theorem exec_ne_refused (i : Instr) (s : State) (x : Refusal) : exec i s ≠ .refused x := by
  obtain ⟨r, hr⟩ := exec_eq_conclude i s
  rw [hr]
  exact conclude_ne_refused r s x

theorem step_ne_refused (s : State) (x : Refusal) : step s ≠ .refused x := by
  rw [step_eq_conclude_decodeCall]
  exact conclude_ne_refused _ s x

theorem Result.eq_variant (r : Result) :
    (∃ d, r = .ok d) ∨ (∃ d, r = .undefined d) ∨ (∃ d, r = .truncated d) ∨ r = .invalid := by
  cases r with
  | ok d => exact .inl ⟨d, rfl⟩
  | undefined d => exact .inr (.inl ⟨d, rfl⟩)
  | truncated d => exact .inr (.inr (.inl ⟨d, rfl⟩))
  | invalid => exact .inr (.inr (.inr rfl))

/-- Settles O29. A call with an opcode to read goes on with its result (`step_eq_deliver`), one without is `Invalid`, and
neither the step nor a meaning can refuse, since both end in `conclude`. -/
theorem everyCallHasOneResult : Obligations.EveryCallHasOneResult := fun s =>
  ⟨(decodeCall s.buf s.off).eq_variant, fun hv => ⟨_, step_eq_deliver hv, rfl⟩,
    fun hend => decodeCall_invalid (Nat.le_of_not_lt hend), step_ne_refused s, fun i => exec_ne_refused i s⟩

/-- The outcomes of a call with an opcode to read, and how far `Undefined` and `Truncated` reach. -/
theorem decodeCall_cases {buf : Memory} {off : Nat} (hv : off < buf.len) :
    (∃ d, decodeCall buf off = .undefined d ∧ d.length = 1) ∨
      (∃ d, decodeCall buf off = .truncated d ∧ off + d.length = buf.len) ∨ ∃ d, decodeCall buf off = .ok d := by
  cases hT : TABLE (buf.byteAt off) with
  | none => exact .inl ⟨_, decodeCall_undefined hv hT, rfl⟩
  | some e =>
    by_cases hfit : off + 1 + opCount e.mode ≤ buf.len
    case pos => exact .inr (.inr ⟨_, decodeCall_ok hT hfit⟩)
    case neg => exact .inr (.inl ⟨_, decodeCall_truncated hT hv (Nat.lt_of_not_le hfit), Nat.add_sub_cancel' hv.le⟩)

/-- Settles O37. The cursor moves by the length of the delivered result, which `decodeCall_cases` gives for each outcome. -/
theorem hostResumesAfterOutcome : Obligations.HostResumesAfterOutcome := by
  intro s t h
  have hv := off_lt_len_of_step_eq_next h
  rw [eq_deliver_of_step_eq_next h]
  obtain ⟨d, hr, hlen⟩ | ⟨d, hr, hlen⟩ | ⟨d, hr⟩ := decodeCall_cases hv
  · simp [hr, hlen, Result.length]
  · simp [hr, hlen, Result.length]
  · simp [hr, Result.length]

/-- Settles O39. Each of the four variants has a status of its own. -/
theorem outcomesDistinguishable : Obligations.OutcomesDistinguishable := by
  intro r
  cases r <;> simp [Result.status]

end Sys2Proof.Machine

/-! The byte decoder and the encoder undo each other (30_encoding.md R38, R42, R45, R46). Every instruction is what its opcode
makes of its operand bytes, so both directions follow from the facts about `instrOf`. -/

namespace Sys2Proof.Machine

/-- Every instruction is made by its own bytes. -/
theorem instrOf_encode (i : Instr) : instrOf i.opcode ((encode i).getD 1 0) ((encode i).getD 2 0) = i := by
  cases i <;> simp only [Instr.opcode, encode, List.headD_cons] <;> rfl

/-- The two bytes the decoder looks at, cut to an opcode's operands, are the front of the byte sequence. -/
theorem take_getD_eq_take : ∀ {n : Nat} {bytes : List Byte}, n ≤ 2 → n ≤ bytes.length →
    [bytes.getD 0 0, bytes.getD 1 0].take n = bytes.take n
  | 0, _, _, _ => rfl
  | 1, _ :: _, _, _ => rfl
  | 2, _ :: _ :: _, _, _ => rfl

theorem decode_encode_instrOf (op b0 b1 : Byte) (rest : List Byte) :
    decode (encode (instrOf op b0 b1) ++ rest) = .ok (instrOf op b0 b1, rest) := by
  have hneed := neededBy_le op
  have hops : ([b0, b1].take (neededBy op)).length = neededBy op := by simpa using hneed
  rw [encode_instrOf, List.cons_append, decode_cons_eq_ok]
  refine ⟨by rw [List.length_append]; omega, instrOf_congr _ _ _ _ _ ?_, (List.drop_left' hops).symm⟩
  rw [take_getD_eq_take hneed (by rw [List.length_append]; omega), List.take_left' hops]

/-- Settles O6. Every instruction is made by its opcode (`instrOf_encode`), whose operand bytes the decoder takes back. -/
theorem decodeOfEncode : Obligations.DecodeOfEncode := by
  intro i rest
  rw [← instrOf_encode i]
  exact decode_encode_instrOf _ _ _ rest

/-- Settles O7. The decoder takes the opcode's operand bytes, which are the ones the encoder writes. -/
theorem encodeOfDecode : Obligations.EncodeOfDecode := by
  intro bs rest i h
  cases bs with
  | nil => cases h
  | cons op tail =>
    obtain ⟨hwhole, rfl, rfl⟩ := decode_cons_eq_ok.1 h
    rw [encode_instrOf, take_getD_eq_take (neededBy_le op) hwhole, List.cons_append, List.take_append_drop]

/-- The byte decoder refuses an opcode exactly when operand bytes are missing. -/
theorem decode_cons_eq_error {op : Byte} {tail : List Byte} {r : Reject} :
    decode (op :: tail) = .error r ↔
      tail.length < neededBy op ∧ r = .operandsMissing op (neededBy op) tail.length := by
  rw [decode]
  split
  case isTrue hshort => simp [hshort, eq_comm]
  case isFalse hwhole => simp [hwhole]

/-- Settles O8, by the two forms of a byte sequence. -/
theorem decodeRefusesOnlyShortInput : Obligations.DecodeRefusesOnlyShortInput := by
  intro bs r
  cases bs with
  | nil => simp [decode, eq_comm]
  | cons op tail => simp [decode_cons_eq_error]

/-- Settles O5: each word is the encoding of its instruction and what follows it. -/
theorem specWordsDecode : Obligations.SpecWordsDecode :=
  ⟨decodeOfEncode (.ldaImmediate 0x42) [], decodeOfEncode (.jsr 0x00 0x80) [], decodeOfEncode (.jmpIndirect 0xFC 0xFF) [],
    decodeOfEncode .aslAccumulator [0xFF], decodeOfEncode (.ldxZeroPageY 0x10) [], decodeOfEncode (.eorIndirectY 0x80) [],
    decodeOfEncode (.bne 0xF7) [], decodeOfEncode .pha [], decodeOfEncode .txa [0x8C], decodeOfEncode .undefined02 [0xFF]⟩

end Sys2Proof.Machine

/-! The text of a record (40_decode_and_format.md R53 to R57): the digits of a byte, the thirteen operand shapes, and that every
text is one line of at most 15 characters (10_state.md R21). -/

namespace Sys2Proof.Machine

theorem hexDigits_getElem? (n : BitVec 4) : hexDigits[n.toNat]? = some (hexDigit n) := by
  have hlt : n.toNat < hexDigits.length := n.isLt
  rw [hexDigit, List.getD_eq_getElem?_getD, List.getElem?_eq_getElem hlt, Option.getD_some]

theorem highNibble_toNat (b : Byte) : (b.extractLsb' 4 4).toNat = b.toNat / 16 := by
  have := b.isLt
  simp only [BitVec.extractLsb'_toNat, Nat.shiftRight_eq_div_pow]
  omega

theorem lowNibble_toNat (b : Byte) : (b.extractLsb' 0 4).toNat = b.toNat % 16 := by
  simp

/-- The byte that two hexadecimal digits spell. -/
def byteOfDigits (x y : Char) : Byte := BitVec.ofNat 8 (16 * hexDigits.idxOf x + hexDigits.idxOf y)

theorem idxOf_hexDigit : ∀ n : BitVec 4, hexDigits.idxOf (hexDigit n) = n.toNat := by decide

/-- The two characters of `hex2` spell its byte. -/
theorem byteOfDigits_hexDigit (b : Byte) :
    byteOfDigits (hexDigit (b.extractLsb' 4 4)) (hexDigit (b.extractLsb' 0 4)) = b := by
  rw [byteOfDigits, idxOf_hexDigit, idxOf_hexDigit, highNibble_toNat, lowNibble_toNat, Nat.div_add_mod, BitVec.ofNat_toNat,
    BitVec.setWidth_eq]

theorem hex2_injective : Function.Injective hex2 := by
  intro a b h
  have hchars := congrArg String.toList h
  simp only [hex2_toList, List.cons.injEq, and_true] at hchars
  obtain ⟨hhigh, hlow⟩ := hchars
  rw [← byteOfDigits_hexDigit a, hhigh, hlow, byteOfDigits_hexDigit]

/-- Settles O12. The characters are the digits of the two nibbles, and they spell the byte (`byteOfDigits_hexDigit`). -/
theorem hexSpelling : Obligations.HexSpelling := by
  refine ⟨fun b => ⟨_, _, hex2_toList b, ?_, ?_⟩, by decide, by decide, fun _ _ h => hex2_injective h⟩
  · rw [← highNibble_toNat]
    exact hexDigits_getElem? _
  · rw [← lowNibble_toNat]
    exact hexDigits_getElem? _

/-- Settles O13. One byte prints as `hex2`, and two print high byte first (`hex4_word16`). -/
theorem operandTextShapes : Obligations.OperandTextShapes := by
  intro b l h
  refine ⟨rfl, rfl, rfl, rfl, rfl, rfl, rfl, ?_, ?_, ?_, ?_, rfl, rfl⟩ <;>
    simp only [opText, operandValue, opCount, OperandValue.digits, hex4_word16, String.append_assoc]

/-- What an `Ok` record of each mode prints after its mnemonic. -/
inductive TailText : AddressingMode → List Byte → String → Prop
  | implicit : TailText .implicit [] ""
  | accumulator : TailText .accumulator [] " A"
  | immediate (b : Byte) : TailText .immediate [b] (" #$" ++ hex2 b)
  | zeroPage (b : Byte) : TailText .zeroPage [b] (" $" ++ hex2 b)
  | zeroPageX (b : Byte) : TailText .zeroPageX [b] (" $" ++ hex2 b ++ ", X")
  | zeroPageY (b : Byte) : TailText .zeroPageY [b] (" $" ++ hex2 b ++ ", Y")
  | relative (b : Byte) : TailText .relative [b] (" $" ++ hex2 b)
  | absolute (l h : Byte) : TailText .absolute [l, h] (" $" ++ hex2 h ++ hex2 l)
  | absoluteX (l h : Byte) : TailText .absoluteX [l, h] (" $" ++ hex2 h ++ hex2 l ++ ", X")
  | absoluteY (l h : Byte) : TailText .absoluteY [l, h] (" $" ++ hex2 h ++ hex2 l ++ ", Y")
  | indirect (l h : Byte) : TailText .indirect [l, h] (" ($" ++ hex2 h ++ hex2 l ++ ")")
  | indirectX (b : Byte) : TailText .indirectX [b] (" ($" ++ hex2 b ++ ", X)")
  | indirectY (b : Byte) : TailText .indirectY [b] (" ($" ++ hex2 b ++ "), Y")

theorem TailText.textTail_eq {mode : AddressingMode} {ops : List Byte} {tail : String} :
    TailText mode ops tail → textTail mode ops = tail
  | .implicit => textTail_implicit
  | .accumulator => textTail_accumulator
  | .immediate b => textTail_immediate b
  | .zeroPage b => textTail_zeroPage b
  | .zeroPageX b => textTail_zeroPageX b
  | .zeroPageY b => textTail_zeroPageY b
  | .relative b => textTail_relative b
  | .absolute l h => textTail_absolute l h
  | .absoluteX l h => textTail_absoluteX l h
  | .absoluteY l h => textTail_absoluteY l h
  | .indirect l h => textTail_indirect l h
  | .indirectX b => textTail_indirectX b
  | .indirectY b => textTail_indirectY b

theorem TailText.length_eq {mode : AddressingMode} {ops : List Byte} {tail : String} (h : TailText mode ops tail) :
    ops.length = opCount mode := by
  cases h <;> rfl

/-- Operand bytes as many as the mode dictates have a text. -/
theorem exists_tailText : ∀ {mode : AddressingMode} {ops : List Byte}, ops.length = opCount mode →
    ∃ tail, TailText mode ops tail
  | .implicit, [], _ => ⟨_, .implicit⟩
  | .accumulator, [], _ => ⟨_, .accumulator⟩
  | .immediate, [b], _ => ⟨_, .immediate b⟩
  | .zeroPage, [b], _ => ⟨_, .zeroPage b⟩
  | .zeroPageX, [b], _ => ⟨_, .zeroPageX b⟩
  | .zeroPageY, [b], _ => ⟨_, .zeroPageY b⟩
  | .relative, [b], _ => ⟨_, .relative b⟩
  | .absolute, [l, h], _ => ⟨_, .absolute l h⟩
  | .absoluteX, [l, h], _ => ⟨_, .absoluteX l h⟩
  | .absoluteY, [l, h], _ => ⟨_, .absoluteY l h⟩
  | .indirect, [l, h], _ => ⟨_, .indirect l h⟩
  | .indirectX, [b], _ => ⟨_, .indirectX b⟩
  | .indirectY, [b], _ => ⟨_, .indirectY b⟩

/-- The formatter prints the shape of the mode whenever the record has the mode's operand bytes. -/
theorem tailText_textTail {mode : AddressingMode} {ops : List Byte} (hlen : ops.length = opCount mode) :
    TailText mode ops (textTail mode ops) := by
  obtain ⟨tail, htail⟩ := exists_tailText hlen
  rwa [htail.textTail_eq]

/-- A text of at most `n` characters, none of them a line feed. -/
def FitsLine (n : Nat) (t : String) : Prop := t.toList.length ≤ n ∧ '\n' ∉ t.toList

theorem FitsLine.append {m n : Nat} {t u : String} (ht : FitsLine m t) (hu : FitsLine n u) : FitsLine (m + n) (t ++ u) := by
  obtain ⟨htlen, htline⟩ := ht
  obtain ⟨hulen, huline⟩ := hu
  refine ⟨?_, by simp [htline, huline]⟩
  rw [String.toList_append, List.length_append]
  omega

theorem FitsLine.mono {m n : Nat} {t : String} (ht : FitsLine m t) (h : m ≤ n) : FitsLine n t := ⟨ht.1.trans h, ht.2⟩

/-- A text of at most 15 characters makes a well-shaped line. -/
theorem emittedLine_of_fitsLine {t : String} (ht : FitsLine 15 t) : emittedLine (t ++ "\n") = true := by
  obtain ⟨hlen, hline⟩ := ht
  have hnl : "\n".toList = ['\n'] := rfl
  simp [emittedLine, hnl, Nat.lt_succ_of_le hlen, List.count_eq_zero_of_not_mem hline]

theorem fitsLine_mnemonic (m : Mnemonic) : FitsLine 3 m.text := by
  cases m <;> exact ⟨by decide, by decide⟩

theorem newline_ne_hexDigit : ∀ n : BitVec 4, '\n' ≠ hexDigit n := by decide

theorem fitsLine_hex2 (b : Byte) : FitsLine 2 (hex2 b) := by
  simp [FitsLine, newline_ne_hexDigit]

/-- The longest shapes are those of an indexed 16-bit operand and of an indexed indirect one. -/
theorem fitsLine_tailText {mode : AddressingMode} {ops : List Byte} {tail : String} (h : TailText mode ops tail) :
    FitsLine 9 tail := by
  cases h <;> simp [FitsLine, newline_ne_hexDigit]

theorem fitsLine_truncated : FitsLine 12 " <truncated>" := ⟨by decide, by decide⟩

/-- What 10_state.md R20 says of an `Ok` record: its opcode's row is its own, and it has that row's operand bytes. -/
theorem okWf_iff {d : Decoded} :
    d.okWf = true ↔ TABLE d.opcode = some { mnemonic := d.mnemonic, mode := d.mode } ∧ d.needed = opCount d.mode ∧
      d.operands.length = d.needed ∧ d.length = 1 + d.needed := by
  cases hT : TABLE d.opcode with
  | none => simp [Decoded.okWf, hT]
  | some e =>
    simp only [Decoded.okWf, hT, Bool.and_eq_true, beq_iff_eq, Option.some.injEq]
    constructor
    · rintro ⟨⟨⟨⟨hm, hmode⟩, hneeded⟩, hops⟩, hlen⟩
      exact ⟨by rw [hm, hmode], by rw [hmode, hneeded], hops, hlen⟩
    · rintro ⟨rfl, hneeded, hops, hlen⟩
      exact ⟨⟨⟨⟨rfl, rfl⟩, hneeded⟩, hops⟩, hlen⟩

/-- Every text of a well-formed result fits in a line: the longest is that of a `Truncated` one. -/
theorem fitsLine_text {r : Result} (h : r.wf = true) : FitsLine 15 r.text := by
  cases r with
  | ok d =>
    obtain ⟨-, hneeded, hops, -⟩ := okWf_iff.1 h
    have htail := tailText_textTail (hops.trans hneeded)
    exact ((fitsLine_mnemonic _).append (fitsLine_tailText htail)).mono (by decide)
  | undefined d => exact (fitsLine_mnemonic _).mono (by decide)
  | truncated d => exact (fitsLine_mnemonic _).append fitsLine_truncated
  | invalid => exact ⟨by decide, by decide⟩

end Sys2Proof.Machine

/-! Every outcome of a call and its record (10_state.md R20, 40_decode_and_format.md R49 to R52, R60, R62, 60_exceptions.md
R127): what the record holds, how many bytes it consumes, and which outcome comes first. -/

namespace Sys2Proof.Machine

/-- The record of a defined opcode with its mode's operand bytes is well-formed, whether it is whole or truncated. -/
theorem definedResult_wf {op : Byte} {e : TableEntry} {ops : List Byte} (hT : TABLE op = some e)
    (hlen : ops.length = opCount e.mode) (len off : Nat) :
    (definedResult op e.mnemonic e.mode ops len off).wf = true := by
  by_cases hv : off < len
  case neg =>
    rw [definedResult_invalid _ _ _ _ (Nat.le_of_not_lt hv)]
    rfl
  case pos =>
    by_cases hfit : off + (1 + ops.length) ≤ len
    case pos =>
      rw [definedResult_ok _ _ hlen hfit]
      exact okWf_iff.2 ⟨hT, hlen, rfl, rfl⟩
    case neg =>
      rw [definedResult_truncated _ _ hlen hv (Nat.lt_of_not_le hfit)]
      simp only [Result.wf, Decoded.truncatedWf, hT, hlen, beq_self_eq_true, Bool.true_and, Bool.and_eq_true,
        decide_eq_true_eq, beq_iff_eq, List.length_take]
      omega

theorem undefinedRecord_wf {op : Byte} (hT : TABLE op = none) : (Result.undefined (undefinedRecord op)).wf = true := by
  simp [Result.wf, Decoded.undefinedWf, undefinedRecord, hT]

/-- Settles O31, one outcome after the other. -/
theorem resultFieldInvariants : Obligations.ResultFieldInvariants := by
  intro buf off
  by_cases hv : off < buf.len
  case neg =>
    rw [decodeCall_invalid (Nat.le_of_not_lt hv)]
    rfl
  case pos =>
    cases hT : TABLE (buf.byteAt off) with
    | none =>
      rw [decodeCall_undefined hv hT]
      exact undefinedRecord_wf hT
    | some e =>
      rw [decodeCall_eq_definedResult hv hT]
      exact definedResult_wf hT (by simp) _ _

theorem definedResult_length_eq {len off : Nat} (op : Byte) (m : Mnemonic) (mode : AddressingMode) (ops : List Byte)
    (hv : off < len) : (definedResult op m mode ops len off).length = 1 + min (opCount mode) (len - off - 1) := by
  simp only [definedResult, if_pos hv]
  split <;> rfl

/-- A call with an opcode to read consumes the opcode and the operand bytes it reads. -/
theorem decodeCall_length {buf : Memory} {off : Nat} (hv : off < buf.len) :
    (decodeCall buf off).length = 1 + operandsRead buf off := by
  cases hT : TABLE (buf.byteAt off) with
  | none =>
    rw [decodeCall_undefined hv hT, operandsRead, neededBy_of_undefined hT, Nat.zero_min]
    rfl
  | some e => rw [decodeCall_eq_definedResult hv hT, definedResult_length_eq _ _ _ _ hv, operandsRead_of_table hT]

/-- Settles O32. The operand bytes read are at most two, and all inside the buffer. -/
theorem forwardProgress : Obligations.ForwardProgress := by
  intro buf off hv
  have hneed := neededBy_le (buf.byteAt off)
  rw [decodeCall_length hv, operandsRead]
  omega

/-- Settles O49. The bytes read and the cursor after the call stay inside the buffer (`readsAreExactlyTheListed`,
`forwardProgress`); an index is formed for at most two operand bytes. -/
theorem indexArithmeticBound : Obligations.IndexArithmeticBound := by
  intro buf off n hn hv
  have hneed := neededBy_le (buf.byteAt off)
  obtain ⟨-, -, hinside, -⟩ := readsAreExactlyTheListed buf off
  obtain ⟨-, -, hend⟩ := forwardProgress buf off hv
  exact ⟨fun a ha => (hinside a ha).trans_le hn, fun j hj => by omega, hend.trans hn⟩

theorem decodeCall_eq_invalid {buf : Memory} {off : Nat} :
    decodeCall buf off = .invalid ↔ buf.len = 0 ∨ buf.len ≤ off := by
  refine ⟨fun h => ?_, fun h => decodeCall_invalid (by omega)⟩
  by_contra hvalid
  exact decodeCall_ne_invalid (by omega) h

/-- Settles O28. The step's one fault is an `Invalid` call, and a call is `Invalid` only with no opcode to read. -/
theorem invalidCallIsHostFault : Obligations.InvalidCallIsHostFault := by
  intro s
  refine ⟨?_, decodeCall_eq_invalid, rfl, rfl⟩
  rw [step_eq_conclude_decodeCall, conclude_eq_fault, decodeCall_eq_invalid]

/-- Settles O27, by the record `decodeCall_undefined` gives. -/
theorem undefinedDecode : Obligations.UndefinedDecode := by
  intro s hT hv
  rw [step_eq_deliver hv, decodeCall_undefined hv hT]
  rfl

theorem text_truncated (d : Decoded) : (Result.truncated d).text ++ "\n" = d.mnemonic.text ++ " <truncated>\n" := by
  rw [Result.text, String.append_assoc]
  rfl

/-- Settles O26, by the record `decodeCall_truncated` gives. -/
theorem truncatedDecode : Obligations.TruncatedDecode := by
  intro s e hT hv hshort
  rw [step_eq_deliver hv, decodeCall_truncated hT hv hshort]
  simp only [State.deliver, text_truncated, Result.length, Nat.add_sub_cancel' hv.le]

/-- Settles O30. Each condition, in its order, is the one under which its outcome's lemma holds. -/
theorem outcomePriority : Obligations.OutcomePriority := by
  intro buf off
  by_cases hv : off < buf.len
  case neg =>
    rw [if_pos (by omega), decodeCall_invalid (by omega)]
    rfl
  case pos =>
    rw [if_neg (by omega)]
    cases hT : TABLE (buf.byteAt off) with
    | none =>
      rw [decodeCall_undefined hv hT]
      rfl
    | some e =>
      rw [if_neg (by simp), neededBy_of_table hT]
      by_cases hfit : off + 1 + opCount e.mode ≤ buf.len
      case pos =>
        rw [if_neg (by omega), decodeCall_ok hT hfit]
        rfl
      case neg =>
        rw [if_pos (by omega), decodeCall_truncated hT hv (by omega)]
        rfl

end Sys2Proof.Machine

/-! What a step leaves unchanged and what every step keeps (20_memory.md R30, 40_decode_and_format.md R57, R60, 60_exceptions.md
R128, 70_reset_and_hazards.md R137). -/

namespace Sys2Proof.Machine

/-- The invariant after one more call has been delivered: its result is well-formed and no `Invalid`, and the cursor stays in
the buffer or at its end. -/
theorem State.Inv.deliver {s : State} {r : Result} (h : s.Inv) (hwf : r.wf = true) (hne : r ≠ .invalid)
    (hend : s.off + r.length ≤ s.buf.len) : (s.deliver r).Inv where
  buf_wf := h.buf_wf
  off_le := hend
  lines_ok l hl := by
    rw [State.deliver_lines, List.mem_append, List.mem_singleton] at hl
    obtain hl | rfl := hl
    · exact h.lines_ok l hl
    · exact emittedLine_of_fitsLine (fitsLine_text hwf)
  no_call hnone := by simp at hnone
  last_call r' hr' := by
    obtain rfl : r = r' := by simpa using hr'
    exact ⟨hwf, hne, by simp⟩

/-- Settles O46. A step delivers one call's result, which is well-formed and ends inside the buffer. -/
theorem stepKeepsInvariant : Obligations.StepKeepsInvariant := by
  intro s t h hstep
  have hv := off_lt_len_of_step_eq_next hstep
  obtain ⟨-, -, hend⟩ := forwardProgress s.buf s.off hv
  rw [eq_deliver_of_step_eq_next hstep]
  exact h.deliver (resultFieldInvariants s.buf s.off) (decodeCall_ne_invalid hv) hend

/-- Settles O44: the fields of the reset state, whose empty buffer has no index to read. -/
theorem resetState : Obligations.ResetState :=
  ⟨State.reset_off, State.reset_lines, Memory.empty_len, State.reset_result, fun a => Memory.read_eq_none (Nat.zero_le a)⟩

/-- Settles O45. With no call made, there is no line and no record to hold to anything. -/
theorem invariantAtReset : Obligations.InvariantAtReset where
  buf_wf := Memory.empty_wf
  off_le := Nat.le_refl 0
  lines_ok := by simp
  no_call _ := State.reset_lines
  last_call := by simp

/-- What a call hands to the host as its next record and cursor depends on the cursor and the result alone. -/
theorem nextState?_conclude (r : Result) {s t : State} (hoff : s.off = t.off) :
    (nextState? (conclude r s)).map State.result = (nextState? (conclude r t)).map State.result ∧
    (nextState? (conclude r s)).map State.off = (nextState? (conclude r t)).map State.off := by
  cases r <;> simp [conclude, nextState?, hoff]

/-- Settles O36. The step delivered its result and wrote nothing; the next call is the same call in both states. -/
theorem outcomeChangesNothing : Obligations.OutcomeChangesNothing := by
  intro s t u hstep hbuf hoff
  have hframe : t.buf = s.buf := by rw [eq_deliver_of_step_eq_next hstep, State.deliver_buf]
  refine ⟨hframe, fun a => by rw [hframe], ?_⟩
  rw [step_eq_conclude_decodeCall, step_eq_conclude_decodeCall, hbuf, hoff]
  exact nextState?_conclude _ hoff

/-- A meaning that goes on delivers a result of 1 to 3 bytes that ends inside the buffer. -/
theorem exec_eq_next {i : Instr} {s t : State} (h : exec i s = .next t) :
    ∃ r : Result, t = s.deliver r ∧ 1 ≤ r.length ∧ r.length ≤ 3 ∧ s.off + r.length ≤ s.buf.len := by
  rw [← instrOf_encode i, exec_instrOf] at h
  split at h
  next e _ =>
    obtain ⟨hv, rfl⟩ := definedCall_next h
    have hcount := opCount_le e.mode
    exact ⟨_, rfl, by rw [definedResult_length_eq _ _ _ _ hv]; omega⟩
  next =>
    obtain ⟨hv, rfl⟩ := undefinedCall_next h
    exact ⟨_, rfl, Nat.le_refl 1, Nat.le_add_left 1 2, hv⟩

/-- Settles O40. Whatever the instruction, its meaning ends in one `deliver`. -/
theorem instructionFrame : Obligations.InstructionFrame := by
  intro i s t h
  obtain ⟨r, rfl, hpos, hle, hend⟩ := exec_eq_next h
  exact ⟨rfl, fun _ => rfl, ⟨_, rfl⟩, Nat.lt_add_of_pos_right hpos, Nat.add_le_add_left hle _, hend⟩

end Sys2Proof.Machine

/-! Every row of the opcode table runs as its rule says (41_load_store.md to 48_undefined.md). A defined row follows from its
table entry and the text of its mode, an undefined one from its gap in the table. -/

namespace Sys2Proof.Machine

/-- A defined row runs as its rule says: `hT` is its table entry, `hi` its instruction, `hname` its mnemonic's letters and
`htail` what its mode prints. -/
theorem rowRuns_of_tailText {i : Instr} {op : Byte} {m : Mnemonic} {mode : AddressingMode} {ops : List Byte}
    {name tail : String} (hT : TABLE op = some { mnemonic := m, mode := mode })
    (hi : instrOf op (ops.getD 0 0) (ops.getD 1 0) = i) (hname : m.text = name) (htail : TailText mode ops tail) :
    RowRuns i op m mode ops name tail := by
  have hlen := htail.length_eq
  have htake : [ops.getD 0 0, ops.getD 1 0].take (opCount mode) = ops := by
    rw [take_getD_eq_take (opCount_le mode) hlen.ge, ← hlen, List.take_length]
  refine rowRuns_of_table hT hlen ?_ hi (fun s => ?_) hname htail.textTail_eq
  · rw [← hi, encode_instrOf, neededBy_of_table hT, htake]
  · rw [← hi, exec_instrOf, hT]
    exact congrArg (definedCall op m mode · s) htake

/-- An undefined value runs as 48_undefined.md R121 says: `hT` is its gap in the table and `hi` its instruction. -/
theorem undefinedRuns_of_gap {i : Instr} {op : Byte} (hT : TABLE op = none) (hi : instrOf op 0 0 = i) : UndefinedRuns i op := by
  refine undefinedRuns_of_table hT ?_ hi fun s => ?_
  · rw [← hi, encode_instrOf, neededBy_of_undefined hT, List.take_zero]
  · rw [← hi, exec_instrOf, hT]

/-- Settles O14. The mnemonics' rows are read off the table; each row then runs by `rowRuns_of_tailText`, where the text is the
`TailText` constructor of its mode. -/
theorem loadAndStoreRowsRun : Obligations.LoadAndStoreRowsRun := by
  refine ⟨by decide, by decide, by decide, by decide, by decide, by decide, fun b l h => ?_⟩
  with_reducible and_intros
  all_goals exact rowRuns_of_tailText rfl rfl rfl (by constructor)

/-- Settles O15, row by row as `loadAndStoreRowsRun`. -/
theorem aluRowsRun : Obligations.AluRowsRun := by
  refine ⟨by decide, by decide, by decide, by decide, by decide, by decide, by decide, by decide, by decide, fun b l h => ?_⟩
  with_reducible and_intros
  all_goals exact rowRuns_of_tailText rfl rfl rfl (by constructor)

/-- Settles O16, row by row as `loadAndStoreRowsRun`; four rows have the Accumulator text. -/
theorem readModifyWriteRowsRun : Obligations.ReadModifyWriteRowsRun := by
  refine ⟨by decide, by decide, by decide, by decide, by decide, by decide, fun b l h => ?_⟩
  with_reducible and_intros
  all_goals exact rowRuns_of_tailText rfl rfl rfl (by constructor)

/-- Settles O17. Every row is Implicit and prints its mnemonic alone. -/
theorem registerRowsRun : Obligations.RegisterRowsRun := by
  refine ⟨by decide, by decide, by decide, by decide, by decide, by decide, by decide, by decide, by decide, by decide, ?_⟩
  with_reducible and_intros
  all_goals exact rowRuns_of_tailText rfl rfl rfl .implicit

/-- Settles O18. Every row is Implicit and prints its mnemonic alone. -/
theorem stackRowsRun : Obligations.StackRowsRun := by
  refine ⟨by decide, by decide, by decide, by decide, ?_⟩
  with_reducible and_intros
  all_goals exact rowRuns_of_tailText rfl rfl rfl .implicit

/-- Settles O19, row by row as `loadAndStoreRowsRun`; BRK is a one-byte Implicit row. -/
theorem jumpAndBreakRowsRun : Obligations.JumpAndBreakRowsRun := by
  refine ⟨by decide, by decide, by decide, by decide, by decide, fun l h => ?_⟩
  with_reducible and_intros
  all_goals exact rowRuns_of_tailText rfl rfl rfl (by constructor)

/-- Settles O20. Every row is Relative and prints its raw byte. -/
theorem branchRowsRun : Obligations.BranchRowsRun := by
  refine ⟨by decide, by decide, by decide, by decide, by decide, by decide, by decide, by decide, fun b => ?_⟩
  with_reducible and_intros
  all_goals exact rowRuns_of_tailText rfl rfl rfl (.relative b)

/-- Settles O21. Every row is Implicit and prints its mnemonic alone. -/
theorem flagAndNopRowsRun : Obligations.FlagAndNopRowsRun := by
  refine ⟨by decide, by decide, by decide, by decide, by decide, by decide, by decide, by decide, ?_⟩
  with_reducible and_intros
  all_goals exact rowRuns_of_tailText rfl rfl rfl .implicit

/-- Settles O22. Each of the 105 values is a gap of the table. -/
theorem undefinedValuesRun : Obligations.UndefinedValuesRun := by
  unfold Obligations.UndefinedValuesRun
  with_reducible and_intros
  all_goals exact undefinedRuns_of_gap rfl rfl

/-- Settles O1, by counting in the table. -/
theorem opcodeTableCounts : Obligations.OpcodeTableCounts :=
  ⟨rfl, rfl, by decide, by decide, by decide⟩

/-- Settles O3, by reading the gaps off the table in order. -/
theorem undefinedOpcodeList : Obligations.UndefinedOpcodeList := by
  unfold Obligations.UndefinedOpcodeList
  decide

end Sys2Proof.Machine

/-! The text of an `Ok` record determines the record (30_encoding.md R40, R53): its first three letters are the mnemonic, what
follows can be read back to a mode and its operand bytes, and the two together fix the row of the table. -/

namespace Sys2Proof.Machine

/-- A mode up to how it prints: a Relative operand prints as a zero-page one (40_decode_and_format.md R53, 30_encoding.md R41). -/
def printedMode : AddressingMode → AddressingMode
  | .relative => .zeroPage
  | mode => mode

/-- Reads the text after the mnemonic back to the printed mode and the operand bytes. No character at a digit's place is
looked at to tell the shapes apart. -/
def readTail : List Char → AddressingMode × List Byte
  | [_, 'A'] => (.accumulator, [])
  | [_, '#', '$', x, y] => (.immediate, [byteOfDigits x y])
  | [_, '$', x, y] => (.zeroPage, [byteOfDigits x y])
  | [_, '$', x, y, _, _, 'X'] => (.zeroPageX, [byteOfDigits x y])
  | [_, '$', x, y, _, _, 'Y'] => (.zeroPageY, [byteOfDigits x y])
  | [_, '$', x, y, z, w] => (.absolute, [byteOfDigits z w, byteOfDigits x y])
  | [_, '$', x, y, z, w, _, _, 'X'] => (.absoluteX, [byteOfDigits z w, byteOfDigits x y])
  | [_, '$', x, y, z, w, _, _, 'Y'] => (.absoluteY, [byteOfDigits z w, byteOfDigits x y])
  | [_, '(', '$', x, y, z, w, _] => (.indirect, [byteOfDigits z w, byteOfDigits x y])
  | [_, '(', '$', x, y, _, _, _, ')'] => (.indirectX, [byteOfDigits x y])
  | [_, '(', '$', x, y, _, _, _, 'Y'] => (.indirectY, [byteOfDigits x y])
  | _ => (.implicit, [])

/-- Reading back what a mode prints gives the printed mode and the operand bytes. -/
theorem readTail_tailText {mode : AddressingMode} {ops : List Byte} {tail : String} (h : TailText mode ops tail) :
    readTail tail.toList = (printedMode mode, ops) := by
  cases h <;> simp [readTail, printedMode, byteOfDigits_hexDigit]

theorem mem_rowsOf {op : Byte} {m : Mnemonic} {mode : AddressingMode} :
    (op, mode) ∈ rowsOf m ↔ TABLE op = some { mnemonic := m, mode := mode } := by
  have hall : op ∈ allOpcodes := List.mem_map.2 ⟨op.toNat, List.mem_range.2 op.isLt, by simp⟩
  simp only [rowsOf, List.mem_filterMap]
  constructor
  · rintro ⟨op', -, h⟩
    split at h
    next e hT =>
      split at h
      next hm =>
        obtain ⟨rfl, rfl⟩ : op' = op ∧ e.mode = mode := by simpa using h
        rw [hT, ← hm]
      next => cases h
    next => cases h
  · intro hT
    exact ⟨op, hall, by simp [hT]⟩

/-- The rows of one mnemonic print in different modes. -/
theorem nodup_printedMode_rowsOf (m : Mnemonic) : ((rowsOf m).map fun row => printedMode row.2).Nodup := by
  cases m <;> decide

/-- A mnemonic and the mode it prints in fix the row of the table. -/
theorem row_eq_of_printedMode_eq {m : Mnemonic} {op op' : Byte} {mode mode' : AddressingMode}
    (hT : TABLE op = some { mnemonic := m, mode := mode }) (hT' : TABLE op' = some { mnemonic := m, mode := mode' })
    (hmode : printedMode mode = printedMode mode') : op = op' ∧ mode = mode' :=
  Prod.mk.inj (List.inj_on_of_nodup_map (nodup_printedMode_rowsOf m) (mem_rowsOf.2 hT) (mem_rowsOf.2 hT') hmode)

theorem mnemonic_text_length (m : Mnemonic) : m.text.toList.length = 3 := by
  cases m <;> rfl

/-- Reading the letters of a mnemonic back, as the place of its three codes in the list of all mnemonics' codes. -/
theorem idxOf_mnemonicBits (m : Mnemonic) :
    ((List.range 57).map fun k => mnemonicBits (Mnemonic.ofNat k)).idxOf (mnemonicBits m) = m.ctorIdx := by
  cases m <;> decide

/-- No two mnemonics have the same letters' codes. -/
theorem mnemonicBits_injective : Function.Injective mnemonicBits := by
  intro m m' h
  have hidx : m.ctorIdx = m'.ctorIdx := by rw [← idxOf_mnemonicBits, h, idxOf_mnemonicBits]
  rw [← Mnemonic.ofNat_ctorIdx m, hidx, Mnemonic.ofNat_ctorIdx]

theorem mnemonic_text_injective : Function.Injective Mnemonic.text := by
  intro m m' h
  refine mnemonicBits_injective ?_
  rw [mnemonicBits, h, mnemonicBits]

/-- Settles O10. The letters give the mnemonic and the rest of the text the printed mode and the operand bytes
(`readTail_tailText`), which fix the row and with it the other fields. -/
theorem okTextDeterminesRecord : Obligations.OkTextDeterminesRecord := by
  intro d e hd he htext
  obtain ⟨hTd, hneedd, hopsd, hlend⟩ := okWf_iff.1 hd
  obtain ⟨hTe, hneede, hopse, hlene⟩ := okWf_iff.1 he
  have hchars := congrArg String.toList htext
  rw [text_ok, text_ok, String.toList_append, String.toList_append] at hchars
  obtain ⟨hname, htail⟩ := List.append_inj hchars (by rw [mnemonic_text_length, mnemonic_text_length])
  have hm : d.mnemonic = e.mnemonic := mnemonic_text_injective (String.toList_inj.1 hname)
  have hread := congrArg readTail htail
  rw [readTail_tailText (tailText_textTail (hopsd.trans hneedd)), readTail_tailText (tailText_textTail (hopse.trans hneede)),
    Prod.mk.injEq] at hread
  obtain ⟨hprinted, hops⟩ := hread
  obtain ⟨hop, hmode⟩ := row_eq_of_printedMode_eq hTd (hm ▸ hTe) hprinted
  cases d
  cases e
  simp_all

end Sys2Proof.Machine

/-! The port view (10_state.md R14, R19, R21, R22): the block is a function of the window bytes inside the buffer, which agrees
with the call, and its ports carry the record's fields. -/

namespace Sys2Proof.Machine

theorem take_pair_congr {a b c d : Byte} : ∀ {k : Nat}, (1 ≤ k → a = c) → (2 ≤ k → b = d) → [a, b].take k = [c, d].take k
  | 0, _, _ => rfl
  | 1, hfirst, _ => by rw [hfirst (by omega)]; rfl
  | k + 2, hfirst, hsecond => by rw [hfirst (by omega), hsecond (by omega)]

/-- A defined call depends on the buffer only by how many operand bytes lie inside it and which they are. -/
theorem definedResult_congr {op : Byte} {m : Mnemonic} {mode : AddressingMode} {ops ops' : List Byte} {len off len' off' : Nat}
    (hv : off < len) (hv' : off' < len') (hk : min (opCount mode) (len - off - 1) = min (opCount mode) (len' - off' - 1))
    (hops : ops.take (min (opCount mode) (len - off - 1)) = ops'.take (min (opCount mode) (len - off - 1))) :
    definedResult op m mode ops len off = definedResult op m mode ops' len' off' := by
  simp only [definedResult, if_pos hv, if_pos hv', ← hk, hops]

theorem windowResult_invalid {w : Window} (h : w.avail.val = 0) : windowResult w = .invalid := if_pos h

theorem windowResult_undefined {w : Window} (h : w.avail.val ≠ 0) (hT : TABLE w.w0 = none) :
    windowResult w = .undefined (undefinedRecord w.w0) := by
  simp only [windowResult, if_neg h, hT]

/-- On a window the call is the shared operation, in a buffer of the bytes the window has. -/
theorem windowResult_defined {w : Window} {e : TableEntry} (h : w.avail.val ≠ 0) (hT : TABLE w.w0 = some e) :
    windowResult w = definedResult w.w0 e.mnemonic e.mode [w.w1, w.w2] w.avail.val 0 := by
  simp only [windowResult, definedResult, if_neg h, if_pos (Nat.pos_of_ne_zero h), hT, Nat.sub_zero]

/-- Settles O41. The result is formed from the opcode byte and the operand bytes inside the buffer. -/
theorem outsideWindowBytesDoNotMatter : Obligations.OutsideWindowBytesDoNotMatter := by
  intro v w havail h0 h1 h2
  refine congrArg portsOf ?_
  by_cases hv : v.avail.val = 0
  case pos => rw [windowResult_invalid hv, windowResult_invalid (havail ▸ hv)]
  case neg =>
    have hop := h0 (Nat.pos_of_ne_zero hv)
    cases hT : TABLE v.w0 with
    | none => rw [windowResult_undefined hv hT, windowResult_undefined (havail ▸ hv) (hop ▸ hT), hop]
    | some e =>
      rw [windowResult_defined hv hT, windowResult_defined (havail ▸ hv) (hop ▸ hT), hop, havail]
      exact definedResult_congr_take _ _ _
        (take_pair_congr (fun _ => h1 (by rw [havail]; omega)) (fun _ => h2 (by rw [havail]; omega)))

theorem windowByteAt_of_lt {buf : Memory} {a : Nat} (h : a < buf.len) : windowByteAt buf a = buf.byteAt a := if_pos h

/-- The result formed from the window at `off` is the call's. -/
theorem windowResult_windowOf (buf : Memory) (off : Nat) : windowResult (windowOf buf off) = decodeCall buf off := by
  have havail : (windowOf buf off).avail.val = min 3 (buf.len - off) := rfl
  by_cases hv : off < buf.len
  case neg => rw [decodeCall_invalid (by omega), windowResult_invalid (by omega)]
  case pos =>
    have hop : (windowOf buf off).w0 = buf.byteAt off := windowByteAt_of_lt hv
    cases hT : TABLE (buf.byteAt off) with
    | none => rw [decodeCall_undefined hv hT, windowResult_undefined (by omega) (hop ▸ hT), hop]
    | some e =>
      have hcount := opCount_le e.mode
      have hpair : buf.slice (off + 1) (off + 1 + 2) = [buf.byteAt (off + 1), buf.byteAt (off + 2)] := by
        rw [Memory.slice_cons _ (by omega), Memory.slice_cons _ (by omega), Memory.slice_nil _ (by omega)]
      rw [decodeCall_eq_definedResult hv hT, windowResult_defined (by omega) (hop ▸ hT), hop, havail]
      refine definedResult_congr (by omega) hv (by omega) ?_
      calc [(windowOf buf off).w1, (windowOf buf off).w2].take _
        _ = [buf.byteAt (off + 1), buf.byteAt (off + 2)].take _ :=
          take_pair_congr (fun _ => windowByteAt_of_lt (by omega)) (fun _ => windowByteAt_of_lt (by omega))
        _ = (buf.slice (off + 1) (off + 1 + opCount e.mode)).take _ := by
          rw [← hpair, Memory.take_slice, Memory.take_slice]
          congr 2
          omega

/-- Settles O42, by `windowResult_windowOf`. -/
theorem portViewAgrees : Obligations.PortViewAgrees := fun buf off => congrArg portsOf (windowResult_windowOf buf off)

theorem windowResult_wf (w : Window) : (windowResult w).wf = true := by
  by_cases hv : w.avail.val = 0
  case pos =>
    rw [windowResult_invalid hv]
    rfl
  case neg =>
    cases hT : TABLE w.w0 with
    | none =>
      rw [windowResult_undefined hv hT]
      exact undefinedRecord_wf hT
    | some e =>
      have hcount := opCount_le e.mode
      rw [windowResult_defined hv hT, definedResult_congr_take (ops' := [w.w1, w.w2].take (opCount e.mode))]
      · exact definedResult_wf hT (by simpa using hcount) _ _
      · rw [List.take_take, Nat.min_eq_left (Nat.min_le_left _ _)]

end Sys2Proof.Machine

/-! The port statement, part by part (10_state.md R14, R19, R21; 92_eei_decisions.md D2 to D4, D24): what the ports carry on each
of the three kinds of window, and the codes of the mnemonics and modes. -/

namespace Sys2Proof.Machine

theorem portsOf_text (r : Result) : (portsOf r).text = r.text := by
  cases r <;> rfl

theorem modeCode_le (mode : AddressingMode) : (modeCode mode).toNat ≤ 12 := by
  cases mode <;> decide

theorem portsOf_mode_le (r : Result) : (portsOf r).mode.toNat ≤ 12 := by
  cases r with
  | ok d | undefined d | truncated d => exact modeCode_le d.mode
  | invalid => exact Nat.zero_le _

theorem block_invalid {w : Window} (hv : w.avail.val = 0) :
    block w = { status := 3#2, opcode := 0x00#8, mnem := 0x000000#24, mode := 0#4, needed := 0#2, nops := 0#2
                op1 := 0x00#8, op2 := 0x00#8, length := 0#2, text := "" } := by
  rw [block, windowResult_invalid hv]
  rfl

theorem mnemonicBits_sentinel : mnemonicBits .sentinel = 0x3F3F3F#24 := by decide

theorem block_undefined {w : Window} (hv : w.avail.val ≠ 0) (hT : TABLE w.w0 = none) :
    block w = { status := 1#2, opcode := w.w0, mnem := 0x3F3F3F#24, mode := 0#4, needed := 0#2, nops := 0#2
                op1 := 0x00#8, op2 := 0x00#8, length := 1#2, text := "???" } := by
  rw [block, windowResult_undefined hv hT, ← mnemonicBits_sentinel]
  rfl

/-- The ports of a record that keeps the first `k` of two operand bytes. -/
theorem recordPorts_of_take {d : Decoded} {b0 b1 : Byte} {k : Nat} (hk : k ≤ 2) (hops : d.operands = [b0, b1].take k)
    (st : Status) (text : String) :
    recordPorts st d text =
      { status := st.code, opcode := d.opcode, mnem := mnemonicBits d.mnemonic, mode := modeCode d.mode
        needed := BitVec.ofNat 2 d.needed, nops := BitVec.ofNat 2 k, op1 := if 1 ≤ k then b0 else 0x00#8
        op2 := if k = 2 then b1 else 0x00#8, length := BitVec.ofNat 2 d.length, text := text } := by
  rw [recordPorts, hops]
  obtain rfl | rfl | rfl : k = 0 ∨ k = 1 ∨ k = 2 := by omega
  all_goals rfl

/-- A defined opcode: the ports of the record that keeps the `k` operand bytes inside the window. -/
theorem block_defined {w : Window} {e : TableEntry} {k : Nat} (hv : w.avail.val ≠ 0) (hT : TABLE w.w0 = some e)
    (hk : k = min (opCount e.mode) (w.avail.val - 1)) :
    block w =
      { status := if k = opCount e.mode then 0#2 else 2#2, opcode := w.w0, mnem := mnemonicBits e.mnemonic
        mode := modeCode e.mode, needed := BitVec.ofNat 2 (opCount e.mode), nops := BitVec.ofNat 2 k
        op1 := if 1 ≤ k then w.w1 else 0x00#8, op2 := if k = 2 then w.w2 else 0x00#8, length := BitVec.ofNat 2 (1 + k)
        text := (windowResult w).text } := by
  have hcount := opCount_le e.mode
  rw [block, windowResult_defined hv hT]
  simp only [definedResult, if_pos (Nat.pos_of_ne_zero hv), Nat.sub_zero, ← hk]
  by_cases hfit : k = opCount e.mode
  case pos =>
    rw [if_neg (by omega), if_pos hfit]
    exact recordPorts_of_take (by omega) rfl .ok _
  case neg =>
    rw [if_pos (by omega), if_neg hfit]
    exact recordPorts_of_take (by omega) rfl .truncated _

/-- The operand ports carry the first `k` operand bytes of the window, and zeros after them. -/
theorem block_operands (w : Window) :
    ∃ k ≤ 2, (block w).nops = BitVec.ofNat 2 k ∧ (block w).op1 = (if 1 ≤ k then w.w1 else 0x00#8) ∧
      (block w).op2 = (if k = 2 then w.w2 else 0x00#8) := by
  by_cases hv : w.avail.val = 0
  case pos => exact ⟨0, by omega, by rw [block_invalid hv]; exact ⟨rfl, rfl, rfl⟩⟩
  case neg =>
    cases hT : TABLE w.w0 with
    | none => exact ⟨0, by omega, by rw [block_undefined hv hT]; exact ⟨rfl, rfl, rfl⟩⟩
    | some e =>
      have hcount := opCount_le e.mode
      refine ⟨min (opCount e.mode) (w.avail.val - 1), by omega, ?_⟩
      rw [block_defined hv hT rfl]
      exact ⟨rfl, rfl, rfl⟩

theorem ofNat_two_toNat {n : Nat} (h : n ≤ 3) : (BitVec.ofNat 2 n).toNat = n := by
  rw [BitVec.toNat_ofNat, Nat.mod_eq_of_lt (by omega)]

/-- Three bytes joined in a 24-bit word, read back from their places. -/
theorem extract_append_bytes (x y z : BitVec 8) :
    (x ++ (y ++ z)).extractLsb' 16 8 = x ∧ (x ++ (y ++ z)).extractLsb' 8 8 = y ∧ (x ++ (y ++ z)).extractLsb' 0 8 = z :=
  ⟨BitVec.extractLsb'_append_eq_left,
    (BitVec.extractLsb'_append_eq_of_add_le (by omega)).trans BitVec.extractLsb'_append_eq_left,
    (BitVec.extractLsb'_append_eq_of_add_le (by omega)).trans BitVec.extractLsb'_append_eq_right⟩

/-- `mnem` holds the codes of the three letters, the first in bits 23:16 (92_eei_decisions.md D4). -/
theorem mnemonicBits_letters (m : Mnemonic) : ∃ a b c : Char, m.text.toList = [a, b, c] ∧
    (mnemonicBits m).extractLsb' 16 8 = BitVec.ofNat 8 a.toNat ∧
    (mnemonicBits m).extractLsb' 8 8 = BitVec.ofNat 8 b.toNat ∧
    (mnemonicBits m).extractLsb' 0 8 = BitVec.ofNat 8 c.toNat := by
  obtain ⟨a, b, c, hletters⟩ := List.length_eq_three.1 (mnemonic_text_length m)
  have hbits : mnemonicBits m = asciiCode a ++ (asciiCode b ++ asciiCode c) := by rw [mnemonicBits, hletters]
  rw [hbits]
  exact ⟨a, b, c, hletters, extract_append_bytes _ _ _⟩

/-- Settles O43. The three kinds of window are `block_invalid`, `block_undefined` and `block_defined`; the operand ports are
`block_operands`. -/
theorem portFills : Obligations.PortFills := by
  refine ⟨fun w => ?_, mnemonicBits_letters, by decide, fun _ _ h => mnemonicBits_injective h, rfl, rfl, rfl, rfl, rfl, rfl,
    rfl, rfl, rfl, rfl, rfl, rfl, rfl, rfl, rfl, rfl, rfl⟩
  have htext : (block w).text = (windowResult w).text := portsOf_text _
  obtain ⟨hshort, -⟩ := fitsLine_text (windowResult_wf w)
  obtain ⟨j, hj, hnops, hop1, hop2⟩ := block_operands w
  refine ⟨htext, htext ▸ hshort, portsOf_mode_le _, block_invalid, block_undefined, fun e hv hT => ?_, ?_⟩
  · have hcount := opCount_le e.mode
    rw [block_defined hv hT rfl]
    exact ⟨rfl, rfl, rfl, rfl, ofNat_two_toNat (by omega), ofNat_two_toNat (by omega), ofNat_two_toNat (by omega), rfl, rfl⟩
  · rw [hnops, hop1, hop2]
    obtain rfl | rfl | rfl : j = 0 ∨ j = 1 ∨ j = 2 := by omega
    all_goals simp

end Sys2Proof.Machine

/-! The step runs the instruction the byte decoder reads at the cursor (40_decode_and_format.md R48, R58), also when the host has
laid it there (70_reset_and_hazards.md R140). -/

namespace Sys2Proof.Machine

/-- The operand bytes `fetch` hands to a whole instruction are the buffer's. -/
theorem take_operandBytes_of_whole {buf : Memory} {off n : Nat} (hn : n = neededBy (buf.byteAt off))
    (hwhole : off + 1 + n ≤ buf.len) :
    [operandByte buf off 0, operandByte buf off 1].take n = buf.slice (off + 1) (off + 1 + n) := by
  have hread : n ≤ operandsRead buf off := by
    rw [operandsRead]
    omega
  have hn2 : n ≤ 2 := hn ▸ neededBy_le _
  simpa [List.take_take, List.take_of_length_le] using take_operandBytes buf off hn2 hread

/-- What decodes at the cursor starts with the opcode there, and is whole. -/
theorem decode_slice_eq_ok {buf : Memory} {off : Nat} {i : Instr} {rest : List Byte}
    (h : decode (buf.slice off buf.len) = .ok (i, rest)) :
    off + instructionLength (buf.byteAt off) ≤ buf.len ∧
      i = instrOf (buf.byteAt off) (operandByte buf off 0) (operandByte buf off 1) := by
  by_cases hv : off < buf.len
  case neg =>
    rw [Memory.slice_nil _ (Nat.le_of_not_lt hv)] at h
    cases h
  case pos =>
    rw [Memory.slice_cons _ hv] at h
    obtain ⟨hwhole, rfl, -⟩ := decode_cons_eq_ok.1 h
    have htail := take_getD_eq_take (neededBy_le _) hwhole
    rw [Memory.slice_length] at hwhole
    have hend : off + 1 + neededBy (buf.byteAt off) ≤ buf.len := by omega
    refine ⟨by rw [instructionLength]; omega, instrOf_congr _ _ _ _ _ ?_⟩
    rw [htail, take_operandBytes_of_whole rfl hend, ← Memory.slice_append _ (Nat.le_add_right _ _) hend,
      List.take_left' (by simp)]

/-- Settles O23. The instruction the byte decoder reads is the one `fetch` reads. -/
theorem stepRunsDecodedInstruction : Obligations.StepRunsDecodedInstruction := by
  intro s i rest h
  obtain ⟨hwhole, rfl⟩ := decode_slice_eq_ok h
  rw [instructionLength] at hwhole
  exact ⟨wf_instrOf _ _ _, step_of_validCall (by omega)⟩

/-- A step on a decoded instruction moves the cursor by the instruction's bytes. -/
theorem step_off_of_decode {s : State} {i : Instr} {rest : List Byte}
    (h : decode (s.buf.slice s.off s.buf.len) = .ok (i, rest)) :
    ∃ t, step s = .next t ∧ t.off = s.off + (encode i).length := by
  obtain ⟨hwhole, rfl⟩ := decode_slice_eq_ok h
  have hv : s.off < s.buf.len := by
    rw [instructionLength] at hwhole
    omega
  have hneed := neededBy_le (s.buf.byteAt s.off)
  refine ⟨_, step_eq_deliver hv, ?_⟩
  rw [State.deliver_off, decodeCall_length_of_whole hwhole, instructionLength, encode_instrOf, List.length_cons,
    List.length_take_of_le (by simpa using hneed), Nat.add_comm 1]

/-- Bytes after an instruction do not change what it decodes to. -/
theorem decode_append {bs rest : List Byte} {i : Instr} (h : decode bs = .ok (i, rest)) (more : List Byte) :
    decode (bs ++ more) = .ok (i, rest ++ more) := by
  rw [← encodeOfDecode bs rest i h, List.append_assoc]
  exact decodeOfEncode i (rest ++ more)

theorem Memory.putAll_len (m : Memory) (a : Nat) {bs : List Byte} (hne : bs ≠ []) :
    (m.putAll a bs).len = max m.len (a + bs.length) := by
  induction bs generalizing m a with
  | nil => exact absurd rfl hne
  | cons b bs ih =>
    cases bs with
    | nil => rfl
    | cons c bs =>
      rw [Memory.putAll, ih _ _ (List.cons_ne_nil c bs), Memory.put_len]
      simp only [List.length_cons]
      omega

/-- The bytes the host put are the ones the buffer then holds. -/
theorem Memory.byteAt_putAll (m : Memory) (a : Nat) {bs : List Byte} {k : Nat} (hk : k < bs.length) :
    (m.putAll a bs).byteAt (a + k) = bs[k] := by
  induction bs generalizing m a k with
  | nil => cases hk
  | cons b bs ih =>
    rw [Memory.putAll]
    cases k with
    | zero => rw [Memory.byteAt_putAll_other _ _ (by omega), Nat.add_zero, Memory.byteAt_put_self, List.getElem_cons_zero]
    | succ k => rw [show a + (k + 1) = a + 1 + k by omega, ih, List.getElem_cons_succ]

theorem Memory.slice_putAll (m : Memory) (a : Nat) (bs : List Byte) :
    (m.putAll a bs).slice a (a + bs.length) = bs := by
  refine List.ext_getElem (by simp) fun k _ hk => ?_
  rw [Memory.getElem_slice, Memory.byteAt_putAll _ _ hk]

theorem decode_tableBytes {nbits w : Nat} {i : Instr} (h : decodeTableWord nbits w = some i) :
    ∃ rest, decode (tableBytes nbits w) = .ok (i, rest) := by
  rw [decodeTableWord] at h
  split at h
  next j rest hdecode => exact ⟨rest, Option.some.inj h ▸ hdecode⟩
  next => cases h

theorem tableBytes_length (nbits w : Nat) : (tableBytes nbits w).length = 3 := rfl

theorem withFetchWord_buf_len (s : State) (nbits w : Nat) :
    (s.withFetchWord nbits w).buf.len = max s.buf.len (s.off + 3) :=
  Memory.putAll_len s.buf s.off (List.cons_ne_nil _ _)

/-- A word laid at the cursor decodes there, whatever the buffer holds after it. -/
theorem decode_slice_withFetchWord (s : State) {nbits w : Nat} {i : Instr} (h : decodeTableWord nbits w = some i) :
    ∃ rest, decode ((s.withFetchWord nbits w).buf.slice s.off (s.withFetchWord nbits w).buf.len) = .ok (i, rest) := by
  obtain ⟨rest, hdecode⟩ := decode_tableBytes h
  have hword : (s.withFetchWord nbits w).buf.slice s.off (s.off + 3) = tableBytes nbits w :=
    Memory.slice_putAll s.buf s.off (tableBytes nbits w)
  rw [← Memory.slice_append _ (Nat.le_add_right s.off 3) (by rw [withFetchWord_buf_len]; omega), hword]
  exact ⟨_, decode_append hdecode _⟩

/-- Settles O50. The laid word decodes at the cursor, so the step is its meaning; the bytes put are the only ones changed. -/
theorem tableWordRuns : Obligations.TableWordRuns := by
  intro s nbits w i h
  obtain ⟨rest, hdecode⟩ := decode_slice_withFetchWord s h
  obtain ⟨-, hstep⟩ := stepRunsDecodedInstruction (s.withFetchWord nbits w) i rest hdecode
  have hbyte {k : Nat} (hk : k < 3) : (s.withFetchWord nbits w).buf.byteAt (s.off + k) = (tableBytes nbits w)[k] :=
    Memory.byteAt_putAll s.buf s.off hk
  exact ⟨hstep, step_off_of_decode hdecode, rfl, rfl, rfl, withFetchWord_buf_len s nbits w, hbyte (k := 0) (by omega),
    hbyte (k := 1) (by omega), hbyte (k := 2) (by omega), fun _ ha => Memory.byteAt_putAll_other s.buf _ ha⟩

end Sys2Proof.Machine

/-! The host's loop (40_decode_and_format.md R58, R60): it reaches the end of the buffer, and its records are the buffer cut into
pieces. -/

namespace Sys2Proof.Machine

theorem scanLoop_succ_of_lt {s : State} (hv : s.off < s.buf.len) (fuel : Nat) :
    scanLoop (fuel + 1) s = scanLoop fuel (s.deliver (decodeCall s.buf s.off)) := by
  simp only [scanLoop, if_pos hv, step_eq_deliver hv]

theorem scanLoop_of_end {s : State} (hend : s.buf.len ≤ s.off) (fuel : Nat) : scanLoop fuel s = .next s := by
  cases fuel with
  | zero => rfl
  | succ fuel => exact if_neg (Nat.not_lt.2 hend)

theorem recordsFrom_succ_of_lt {buf : Memory} {off : Nat} (hv : off < buf.len) (fuel : Nat) :
    recordsFrom buf (fuel + 1) off =
      decodeCall buf off :: recordsFrom buf fuel (off + (decodeCall buf off).length) := if_pos hv

theorem recordsFrom_of_end {buf : Memory} {off : Nat} (hend : buf.len ≤ off) (fuel : Nat) :
    recordsFrom buf fuel off = [] := by
  cases fuel with
  | zero => rfl
  | succ fuel => exact if_neg (Nat.not_lt.2 hend)

/-- With as many calls as there are bytes left, the loop reaches the end and has emitted one line for each record. -/
theorem scanLoop_reaches_end {fuel : Nat} {s : State} (hle : s.off ≤ s.buf.len) (hfuel : s.buf.len ≤ s.off + fuel) :
    ∃ t, scanLoop fuel s = .next t ∧ t.off = s.buf.len ∧ t.buf = s.buf ∧
      t.lines = s.lines ++ (recordsFrom s.buf fuel s.off).map (fun r => r.text ++ "\n") := by
  induction fuel generalizing s with
  | zero => exact ⟨s, rfl, Nat.le_antisymm hle hfuel, rfl, by simp [recordsFrom]⟩
  | succ fuel ih =>
    by_cases hv : s.off < s.buf.len
    case neg =>
      rw [scanLoop_of_end (by omega), recordsFrom_of_end (by omega)]
      exact ⟨s, rfl, by omega, rfl, by simp⟩
    case pos =>
      obtain ⟨hpos, -, hend⟩ := forwardProgress s.buf s.off hv
      obtain ⟨t, hrun, hoff, hbuf, hlines⟩ := ih (s := s.deliver (decodeCall s.buf s.off)) hend (by simp; omega)
      rw [scanLoop_succ_of_lt hv, recordsFrom_succ_of_lt hv]
      exact ⟨t, hrun, hoff, hbuf, by simpa using hlines⟩

theorem recordsFrom_length_le (buf : Memory) (fuel off : Nat) : (recordsFrom buf fuel off).length ≤ fuel := by
  induction fuel generalizing off with
  | zero => exact Nat.le_refl 0
  | succ fuel ih =>
    by_cases hv : off < buf.len
    case neg => simp [recordsFrom_of_end (Nat.le_of_not_lt hv)]
    case pos =>
      rw [recordsFrom_succ_of_lt hv]
      exact Nat.succ_le_succ (ih _)

/-- The records of a scan are results of calls with an opcode to read. -/
theorem exists_call_of_mem_recordsFrom {buf : Memory} {fuel off : Nat} {r : Result} (hr : r ∈ recordsFrom buf fuel off) :
    ∃ a < buf.len, r = decodeCall buf a := by
  induction fuel generalizing off with
  | zero => cases hr
  | succ fuel ih =>
    by_cases hv : off < buf.len
    case neg => simp [recordsFrom_of_end (Nat.le_of_not_lt hv)] at hr
    case pos =>
      rw [recordsFrom_succ_of_lt hv, List.mem_cons] at hr
      obtain rfl | hr := hr
      · exact ⟨off, hv, rfl⟩
      · exact ih hr

/-- Settles O47, by `scanLoop_reaches_end` from the loaded buffer. -/
theorem scanEndsAtBufferEnd : Obligations.ScanEndsAtBufferEnd := by
  intro bytes
  obtain ⟨t, hrun, hoff, hbuf, hlines⟩ :=
    scanLoop_reaches_end (fuel := bytes.length) (s := startScan bytes) (Nat.zero_le _) (by simp [startScan])
  refine ⟨t, hrun, hoff, hbuf, hlines, recordsFrom_length_le _ _ _, fun r hr => ?_⟩
  obtain ⟨a, hv, rfl⟩ := exists_call_of_mem_recordsFrom hr
  exact decodeCall_ne_invalid hv

/-- A call's record stands for the bytes from the offset on, as many as its length. -/
theorem decodeCall_consumed {buf : Memory} {off : Nat} (hv : off < buf.len) :
    (decodeCall buf off).consumed = buf.slice off (off + (decodeCall buf off).length) := by
  cases hT : TABLE (buf.byteAt off) with
  | none =>
    rw [decodeCall_undefined hv hT, Memory.slice_cons _ (by simp [Result.length, undefinedRecord]),
      Memory.slice_nil _ (by simp [Result.length, undefinedRecord])]
    rfl
  | some e =>
    by_cases hfit : off + 1 + opCount e.mode ≤ buf.len
    case pos =>
      rw [decodeCall_ok hT hfit, Result.length, ← Nat.add_assoc, Memory.slice_cons buf (i := off) (by omega)]
      rfl
    case neg =>
      rw [decodeCall_truncated hT hv (by omega), Result.length, Nat.add_sub_cancel' hv.le, Memory.slice_cons _ hv]
      rfl

/-- The records from an offset on stand, one after another, for the rest of the buffer. -/
theorem recordsFrom_cover {buf : Memory} {fuel off : Nat} (hle : off ≤ buf.len) (hfuel : buf.len ≤ off + fuel) :
    (recordsFrom buf fuel off).flatMap Result.consumed = buf.slice off buf.len ∧
      ((recordsFrom buf fuel off).map Result.length).sum = buf.len - off := by
  induction fuel generalizing off with
  | zero =>
    have hend : buf.len ≤ off := hfuel
    rw [Memory.slice_nil _ hend, Nat.sub_eq_zero_of_le hend]
    exact ⟨rfl, rfl⟩
  | succ fuel ih =>
    by_cases hv : off < buf.len
    case neg =>
      rw [recordsFrom_of_end (by omega), Memory.slice_nil _ (by omega), Nat.sub_eq_zero_of_le (by omega)]
      exact ⟨rfl, rfl⟩
    case pos =>
      obtain ⟨hpos, -, hend⟩ := forwardProgress buf off hv
      obtain ⟨hbytes, hsum⟩ := ih (off := off + (decodeCall buf off).length) hend (by omega)
      rw [recordsFrom_succ_of_lt hv, List.flatMap_cons, List.map_cons, List.sum_cons, hbytes, hsum, decodeCall_consumed hv,
        Memory.slice_append _ (Nat.le_add_right _ _) hend]
      exact ⟨rfl, by omega⟩

/-- Settles O48, by `recordsFrom_cover` from index 0 of the loaded buffer. -/
theorem everyByteInOneRecord : Obligations.EveryByteInOneRecord := by
  intro bytes
  obtain ⟨hbytes, hsum⟩ :=
    recordsFrom_cover (buf := Memory.ofBytes bytes) (fuel := bytes.length) (Nat.zero_le _) (by simp)
  exact ⟨hbytes.trans (Memory.bytes_ofBytes bytes), hsum⟩

end Sys2Proof.Machine
